-- ==== Sys2Proof/Word.lean ====
section
/-! DEFINITION. The machine's word types (spec/00_scope.md R6, R8): 8-bit bytes, 16-bit words, 24-bit addresses. -/

namespace Sys2Proof

/-- A byte, the unit of memory (spec/20_memory.md R60). -/
abbrev Byte := BitVec 8

/-- A 16-bit register, or an offset in a bank. -/
abbrev Word := BitVec 16

/-- A 24-bit address, bank in bits 23..16 and offset in bits 15..0 (spec/20_memory.md R60). -/
abbrev Addr := BitVec 24

end Sys2Proof
end

