-- ==== Sys2Proof/Machine/Bits.lean ====
section
/-! DEFINITION. The primitives layer (spec/00_scope.md R2, R8): byte, word and address composition, extension, one bit of a byte. -/

namespace Sys2Proof.Machine

/-- `v[7:0]` of a word. -/
def lo (v : Word) : Byte := v.extractLsb' 0 8

/-- `v[15:8]` of a word. -/
def hi (v : Word) : Byte := v.extractLsb' 8 8

/-- `h:l`, the word with high byte `h` and low byte `l`. -/
def wordOf (h l : Byte) : Word := h ++ l

/-- `B:W`, the 24-bit address of offset `off` in bank `bank`. -/
def addrOf (bank : Byte) (off : Word) : Addr := bank ++ off

/-- The bank byte of an address. -/
def bankOf (a : Addr) : Byte := a.extractLsb' 16 8

/-- The offset of an address in its bank. -/
def offsetOf (a : Addr) : Word := a.extractLsb' 0 16

/-- `zext_16` of a byte. -/
def zext (b : Byte) : Word := b.setWidth 16

/-- `sext_16` of a byte. -/
def sext (b : Byte) : Word := b.signExtend 16

/-- A word at the width in force: `zext_16(v[7:0])` when `narrow`, else `v`. -/
def clip (narrow : Bool) (v : Word) : Word := if narrow then zext (lo v) else v

/-- The top bit of a value at the width in force (spec/10_state.md R36). -/
def signBit (narrow : Bool) (v : Word) : Bool := if narrow then v.getLsbD 7 else v.getLsbD 15

/-- Whether a value is zero at the width in force (spec/10_state.md R36). -/
def isZero (narrow : Bool) (v : Word) : Bool := clip narrow v == 0

/-- `p` with bit `i` set to `b` and its other bits kept. -/
def setBit (p : Byte) (i : Nat) (b : Bool) : Byte :=
  if b then p ||| (1#8 <<< i) else p &&& ~~~(1#8 <<< i)

/-- The number of operand bytes of a sized access: 1 when `narrow`, else 2. -/
def accessSize (narrow : Bool) : Nat := if narrow then 1 else 2

end Sys2Proof.Machine
end

