-- ==== Sys2Proof/Syntax.lean ====
section
/-! DEFINITION. The instruction set as syntax: the 91 mnemonics, the 26 addressing modes (spec/00_scope.md R10), and one constructor for each of the 256 rows of spec/opcode_table.json (spec/30_encoding.md R94). -/

namespace Sys2Proof

/-- The 91 mnemonics (spec/30_encoding.md R95). -/
inductive Op where
  | lda | ldx | ldy | sta | stx | sty | stz
  | adc | sbc | and | ora | eor | cmp | cpx | cpy | bit | tsb | trb
  | asl | lsr | rol | ror | inc | dec | inx | iny | dex | dey
  | bcc | bcs | beq | bne | bmi | bpl | bvc | bvs | bra | brl
  | pha | phx | phy | php | phb | phd | phk | pla | plx | ply | plp | plb | pld | pea | pei | per
  | tax | tay | txa | tya | txy | tyx | tsx | txs | tcs | tsc | tcd | tdc | xba
  | mvn | mvp
  | rep | sep | xce | clc | sec | cli | sei | cld | sed | clv | nop
  | jmp | jsr | jsl | rts | rtl | brk | cop | rti | wai | stp | wdm
  deriving DecidableEq, Repr

/-- The 26 addressing modes (spec/00_scope.md R10). -/
inductive Mode where
  | impl | acc | immb | immw | immm | immx | abs | absx | absy | absi | abxi | alng | alnx
  | abil | dpag | dpgx | dpgy | dpgi | dpix | dpiy | dpil | dily | rela | lrel | srel | sriy
  deriving DecidableEq, Repr

/-- An instruction's mode with the operand its bytes hold (spec/30_encoding.md R91). An operand of IMMM or IMMX is as wide as
the width flag says; an 8-bit one is held with a zero high byte (notes/assumptions/9.md). -/
inductive Operand where
  | impl
  | acc
  | immb (b : Byte)
  | immw (w : Word)
  | immm (v : Word)
  | immx (v : Word)
  | abs (w : Word)
  | absx (w : Word)
  | absy (w : Word)
  | absi (w : Word)
  | abxi (w : Word)
  | alng (l : Addr)
  | alnx (l : Addr)
  | abil (w : Word)
  | dpag (d : Byte)
  | dpgx (d : Byte)
  | dpgy (d : Byte)
  | dpgi (d : Byte)
  | dpix (d : Byte)
  | dpiy (d : Byte)
  | dpil (d : Byte)
  | dily (d : Byte)
  | rela (d : Byte)
  | lrel (w : Word)
  | srel (d : Byte)
  | sriy (d : Byte)
  deriving DecidableEq, Repr

/-- The mode of an operand. -/
def Operand.mode : Operand → Mode
  | .impl => .impl
  | .acc => .acc
  | .immb _ => .immb
  | .immw _ => .immw
  | .immm _ => .immm
  | .immx _ => .immx
  | .abs _ => .abs
  | .absx _ => .absx
  | .absy _ => .absy
  | .absi _ => .absi
  | .abxi _ => .abxi
  | .alng _ => .alng
  | .alnx _ => .alnx
  | .abil _ => .abil
  | .dpag _ => .dpag
  | .dpgx _ => .dpgx
  | .dpgy _ => .dpgy
  | .dpgi _ => .dpgi
  | .dpix _ => .dpix
  | .dpiy _ => .dpiy
  | .dpil _ => .dpil
  | .dily _ => .dily
  | .rela _ => .rela
  | .lrel _ => .lrel
  | .srel _ => .srel
  | .sriy _ => .sriy

/-- The instructions, one constructor per row of spec/opcode_table.json: the mnemonic, and the mode where the mnemonic has
several rows; those with operand bytes first, in opcode order. The operand bytes of MVN and MVP are the destination bank, then the source bank (spec/30_encoding.md R100). -/
inductive Instr where
  | brk (sig : Byte)
  | oraDpix (d : Byte)
  | cop (sig : Byte)
  | oraSrel (d : Byte)
  | tsbDpag (d : Byte)
  | oraDpag (d : Byte)
  | aslDpag (d : Byte)
  | oraDpil (d : Byte)
  | oraImmm (v : Word)
  | tsbAbs (w : Word)
  | oraAbs (w : Word)
  | aslAbs (w : Word)
  | oraAlng (l : Addr)
  | bpl (d : Byte)
  | oraDpiy (d : Byte)
  | oraDpgi (d : Byte)
  | oraSriy (d : Byte)
  | trbDpag (d : Byte)
  | oraDpgx (d : Byte)
  | aslDpgx (d : Byte)
  | oraDily (d : Byte)
  | oraAbsy (w : Word)
  | trbAbs (w : Word)
  | oraAbsx (w : Word)
  | aslAbsx (w : Word)
  | oraAlnx (l : Addr)
  | jsrAbs (w : Word)
  | andDpix (d : Byte)
  | jsl (l : Addr)
  | andSrel (d : Byte)
  | bitDpag (d : Byte)
  | andDpag (d : Byte)
  | rolDpag (d : Byte)
  | andDpil (d : Byte)
  | andImmm (v : Word)
  | bitAbs (w : Word)
  | andAbs (w : Word)
  | rolAbs (w : Word)
  | andAlng (l : Addr)
  | bmi (d : Byte)
  | andDpiy (d : Byte)
  | andDpgi (d : Byte)
  | andSriy (d : Byte)
  | bitDpgx (d : Byte)
  | andDpgx (d : Byte)
  | rolDpgx (d : Byte)
  | andDily (d : Byte)
  | andAbsy (w : Word)
  | bitAbsx (w : Word)
  | andAbsx (w : Word)
  | rolAbsx (w : Word)
  | andAlnx (l : Addr)
  | eorDpix (d : Byte)
  | wdm (b : Byte)
  | eorSrel (d : Byte)
  | mvp (dst : Byte) (src : Byte)
  | eorDpag (d : Byte)
  | lsrDpag (d : Byte)
  | eorDpil (d : Byte)
  | eorImmm (v : Word)
  | jmpAbs (w : Word)
  | eorAbs (w : Word)
  | lsrAbs (w : Word)
  | eorAlng (l : Addr)
  | bvc (d : Byte)
  | eorDpiy (d : Byte)
  | eorDpgi (d : Byte)
  | eorSriy (d : Byte)
  | mvn (dst : Byte) (src : Byte)
  | eorDpgx (d : Byte)
  | lsrDpgx (d : Byte)
  | eorDily (d : Byte)
  | eorAbsy (w : Word)
  | jmpAlng (l : Addr)
  | eorAbsx (w : Word)
  | lsrAbsx (w : Word)
  | eorAlnx (l : Addr)
  | adcDpix (d : Byte)
  | per (w : Word)
  | adcSrel (d : Byte)
  | stzDpag (d : Byte)
  | adcDpag (d : Byte)
  | rorDpag (d : Byte)
  | adcDpil (d : Byte)
  | adcImmm (v : Word)
  | jmpAbsi (w : Word)
  | adcAbs (w : Word)
  | rorAbs (w : Word)
  | adcAlng (l : Addr)
  | bvs (d : Byte)
  | adcDpiy (d : Byte)
  | adcDpgi (d : Byte)
  | adcSriy (d : Byte)
  | stzDpgx (d : Byte)
  | adcDpgx (d : Byte)
  | rorDpgx (d : Byte)
  | adcDily (d : Byte)
  | adcAbsy (w : Word)
  | jmpAbxi (w : Word)
  | adcAbsx (w : Word)
  | rorAbsx (w : Word)
  | adcAlnx (l : Addr)
  | bra (d : Byte)
  | staDpix (d : Byte)
  | brl (w : Word)
  | staSrel (d : Byte)
  | styDpag (d : Byte)
  | staDpag (d : Byte)
  | stxDpag (d : Byte)
  | staDpil (d : Byte)
  | bitImmm (v : Word)
  | styAbs (w : Word)
  | staAbs (w : Word)
  | stxAbs (w : Word)
  | staAlng (l : Addr)
  | bcc (d : Byte)
  | staDpiy (d : Byte)
  | staDpgi (d : Byte)
  | staSriy (d : Byte)
  | styDpgx (d : Byte)
  | staDpgx (d : Byte)
  | stxDpgy (d : Byte)
  | staDily (d : Byte)
  | staAbsy (w : Word)
  | stzAbs (w : Word)
  | staAbsx (w : Word)
  | stzAbsx (w : Word)
  | staAlnx (l : Addr)
  | ldyImmx (v : Word)
  | ldaDpix (d : Byte)
  | ldxImmx (v : Word)
  | ldaSrel (d : Byte)
  | ldyDpag (d : Byte)
  | ldaDpag (d : Byte)
  | ldxDpag (d : Byte)
  | ldaDpil (d : Byte)
  | ldaImmm (v : Word)
  | ldyAbs (w : Word)
  | ldaAbs (w : Word)
  | ldxAbs (w : Word)
  | ldaAlng (l : Addr)
  | bcs (d : Byte)
  | ldaDpiy (d : Byte)
  | ldaDpgi (d : Byte)
  | ldaSriy (d : Byte)
  | ldyDpgx (d : Byte)
  | ldaDpgx (d : Byte)
  | ldxDpgy (d : Byte)
  | ldaDily (d : Byte)
  | ldaAbsy (w : Word)
  | ldyAbsx (w : Word)
  | ldaAbsx (w : Word)
  | ldxAbsy (w : Word)
  | ldaAlnx (l : Addr)
  | cpyImmx (v : Word)
  | cmpDpix (d : Byte)
  | rep (b : Byte)
  | cmpSrel (d : Byte)
  | cpyDpag (d : Byte)
  | cmpDpag (d : Byte)
  | decDpag (d : Byte)
  | cmpDpil (d : Byte)
  | cmpImmm (v : Word)
  | cpyAbs (w : Word)
  | cmpAbs (w : Word)
  | decAbs (w : Word)
  | cmpAlng (l : Addr)
  | bne (d : Byte)
  | cmpDpiy (d : Byte)
  | cmpDpgi (d : Byte)
  | cmpSriy (d : Byte)
  | pei (d : Byte)
  | cmpDpgx (d : Byte)
  | decDpgx (d : Byte)
  | cmpDily (d : Byte)
  | cmpAbsy (w : Word)
  | jmpAbil (w : Word)
  | cmpAbsx (w : Word)
  | decAbsx (w : Word)
  | cmpAlnx (l : Addr)
  | cpxImmx (v : Word)
  | sbcDpix (d : Byte)
  | sep (b : Byte)
  | sbcSrel (d : Byte)
  | cpxDpag (d : Byte)
  | sbcDpag (d : Byte)
  | incDpag (d : Byte)
  | sbcDpil (d : Byte)
  | sbcImmm (v : Word)
  | cpxAbs (w : Word)
  | sbcAbs (w : Word)
  | incAbs (w : Word)
  | sbcAlng (l : Addr)
  | beq (d : Byte)
  | sbcDpiy (d : Byte)
  | sbcDpgi (d : Byte)
  | sbcSriy (d : Byte)
  | pea (w : Word)
  | sbcDpgx (d : Byte)
  | incDpgx (d : Byte)
  | sbcDily (d : Byte)
  | sbcAbsy (w : Word)
  | jsrAbxi (w : Word)
  | sbcAbsx (w : Word)
  | incAbsx (w : Word)
  | sbcAlnx (l : Addr)
  | php
  | aslAcc
  | phd
  | clc
  | incAcc
  | tcs
  | plp
  | rolAcc
  | pld
  | sec
  | decAcc
  | tsc
  | rti
  | pha
  | lsrAcc
  | phk
  | cli
  | phy
  | tcd
  | rts
  | pla
  | rorAcc
  | rtl
  | sei
  | ply
  | tdc
  | dey
  | txa
  | phb
  | tya
  | txs
  | txy
  | tay
  | tax
  | plb
  | clv
  | tsx
  | tyx
  | iny
  | dex
  | wai
  | cld
  | phx
  | stp
  | inx
  | nop
  | xba
  | sed
  | plx
  | xce
  deriving DecidableEq, Repr

namespace Instr

/-- The mnemonic of an instruction. -/
def op : Instr → Op
  | .brk _ => .brk
  | .oraDpix _ => .ora
  | .cop _ => .cop
  | .oraSrel _ => .ora
  | .tsbDpag _ => .tsb
  | .oraDpag _ => .ora
  | .aslDpag _ => .asl
  | .oraDpil _ => .ora
  | .php => .php
  | .oraImmm _ => .ora
  | .aslAcc => .asl
  | .phd => .phd
  | .tsbAbs _ => .tsb
  | .oraAbs _ => .ora
  | .aslAbs _ => .asl
  | .oraAlng _ => .ora
  | .bpl _ => .bpl
  | .oraDpiy _ => .ora
  | .oraDpgi _ => .ora
  | .oraSriy _ => .ora
  | .trbDpag _ => .trb
  | .oraDpgx _ => .ora
  | .aslDpgx _ => .asl
  | .oraDily _ => .ora
  | .clc => .clc
  | .oraAbsy _ => .ora
  | .incAcc => .inc
  | .tcs => .tcs
  | .trbAbs _ => .trb
  | .oraAbsx _ => .ora
  | .aslAbsx _ => .asl
  | .oraAlnx _ => .ora
  | .jsrAbs _ => .jsr
  | .andDpix _ => .and
  | .jsl _ => .jsl
  | .andSrel _ => .and
  | .bitDpag _ => .bit
  | .andDpag _ => .and
  | .rolDpag _ => .rol
  | .andDpil _ => .and
  | .plp => .plp
  | .andImmm _ => .and
  | .rolAcc => .rol
  | .pld => .pld
  | .bitAbs _ => .bit
  | .andAbs _ => .and
  | .rolAbs _ => .rol
  | .andAlng _ => .and
  | .bmi _ => .bmi
  | .andDpiy _ => .and
  | .andDpgi _ => .and
  | .andSriy _ => .and
  | .bitDpgx _ => .bit
  | .andDpgx _ => .and
  | .rolDpgx _ => .rol
  | .andDily _ => .and
  | .sec => .sec
  | .andAbsy _ => .and
  | .decAcc => .dec
  | .tsc => .tsc
  | .bitAbsx _ => .bit
  | .andAbsx _ => .and
  | .rolAbsx _ => .rol
  | .andAlnx _ => .and
  | .rti => .rti
  | .eorDpix _ => .eor
  | .wdm _ => .wdm
  | .eorSrel _ => .eor
  | .mvp _ _ => .mvp
  | .eorDpag _ => .eor
  | .lsrDpag _ => .lsr
  | .eorDpil _ => .eor
  | .pha => .pha
  | .eorImmm _ => .eor
  | .lsrAcc => .lsr
  | .phk => .phk
  | .jmpAbs _ => .jmp
  | .eorAbs _ => .eor
  | .lsrAbs _ => .lsr
  | .eorAlng _ => .eor
  | .bvc _ => .bvc
  | .eorDpiy _ => .eor
  | .eorDpgi _ => .eor
  | .eorSriy _ => .eor
  | .mvn _ _ => .mvn
  | .eorDpgx _ => .eor
  | .lsrDpgx _ => .lsr
  | .eorDily _ => .eor
  | .cli => .cli
  | .eorAbsy _ => .eor
  | .phy => .phy
  | .tcd => .tcd
  | .jmpAlng _ => .jmp
  | .eorAbsx _ => .eor
  | .lsrAbsx _ => .lsr
  | .eorAlnx _ => .eor
  | .rts => .rts
  | .adcDpix _ => .adc
  | .per _ => .per
  | .adcSrel _ => .adc
  | .stzDpag _ => .stz
  | .adcDpag _ => .adc
  | .rorDpag _ => .ror
  | .adcDpil _ => .adc
  | .pla => .pla
  | .adcImmm _ => .adc
  | .rorAcc => .ror
  | .rtl => .rtl
  | .jmpAbsi _ => .jmp
  | .adcAbs _ => .adc
  | .rorAbs _ => .ror
  | .adcAlng _ => .adc
  | .bvs _ => .bvs
  | .adcDpiy _ => .adc
  | .adcDpgi _ => .adc
  | .adcSriy _ => .adc
  | .stzDpgx _ => .stz
  | .adcDpgx _ => .adc
  | .rorDpgx _ => .ror
  | .adcDily _ => .adc
  | .sei => .sei
  | .adcAbsy _ => .adc
  | .ply => .ply
  | .tdc => .tdc
  | .jmpAbxi _ => .jmp
  | .adcAbsx _ => .adc
  | .rorAbsx _ => .ror
  | .adcAlnx _ => .adc
  | .bra _ => .bra
  | .staDpix _ => .sta
  | .brl _ => .brl
  | .staSrel _ => .sta
  | .styDpag _ => .sty
  | .staDpag _ => .sta
  | .stxDpag _ => .stx
  | .staDpil _ => .sta
  | .dey => .dey
  | .bitImmm _ => .bit
  | .txa => .txa
  | .phb => .phb
  | .styAbs _ => .sty
  | .staAbs _ => .sta
  | .stxAbs _ => .stx
  | .staAlng _ => .sta
  | .bcc _ => .bcc
  | .staDpiy _ => .sta
  | .staDpgi _ => .sta
  | .staSriy _ => .sta
  | .styDpgx _ => .sty
  | .staDpgx _ => .sta
  | .stxDpgy _ => .stx
  | .staDily _ => .sta
  | .tya => .tya
  | .staAbsy _ => .sta
  | .txs => .txs
  | .txy => .txy
  | .stzAbs _ => .stz
  | .staAbsx _ => .sta
  | .stzAbsx _ => .stz
  | .staAlnx _ => .sta
  | .ldyImmx _ => .ldy
  | .ldaDpix _ => .lda
  | .ldxImmx _ => .ldx
  | .ldaSrel _ => .lda
  | .ldyDpag _ => .ldy
  | .ldaDpag _ => .lda
  | .ldxDpag _ => .ldx
  | .ldaDpil _ => .lda
  | .tay => .tay
  | .ldaImmm _ => .lda
  | .tax => .tax
  | .plb => .plb
  | .ldyAbs _ => .ldy
  | .ldaAbs _ => .lda
  | .ldxAbs _ => .ldx
  | .ldaAlng _ => .lda
  | .bcs _ => .bcs
  | .ldaDpiy _ => .lda
  | .ldaDpgi _ => .lda
  | .ldaSriy _ => .lda
  | .ldyDpgx _ => .ldy
  | .ldaDpgx _ => .lda
  | .ldxDpgy _ => .ldx
  | .ldaDily _ => .lda
  | .clv => .clv
  | .ldaAbsy _ => .lda
  | .tsx => .tsx
  | .tyx => .tyx
  | .ldyAbsx _ => .ldy
  | .ldaAbsx _ => .lda
  | .ldxAbsy _ => .ldx
  | .ldaAlnx _ => .lda
  | .cpyImmx _ => .cpy
  | .cmpDpix _ => .cmp
  | .rep _ => .rep
  | .cmpSrel _ => .cmp
  | .cpyDpag _ => .cpy
  | .cmpDpag _ => .cmp
  | .decDpag _ => .dec
  | .cmpDpil _ => .cmp
  | .iny => .iny
  | .cmpImmm _ => .cmp
  | .dex => .dex
  | .wai => .wai
  | .cpyAbs _ => .cpy
  | .cmpAbs _ => .cmp
  | .decAbs _ => .dec
  | .cmpAlng _ => .cmp
  | .bne _ => .bne
  | .cmpDpiy _ => .cmp
  | .cmpDpgi _ => .cmp
  | .cmpSriy _ => .cmp
  | .pei _ => .pei
  | .cmpDpgx _ => .cmp
  | .decDpgx _ => .dec
  | .cmpDily _ => .cmp
  | .cld => .cld
  | .cmpAbsy _ => .cmp
  | .phx => .phx
  | .stp => .stp
  | .jmpAbil _ => .jmp
  | .cmpAbsx _ => .cmp
  | .decAbsx _ => .dec
  | .cmpAlnx _ => .cmp
  | .cpxImmx _ => .cpx
  | .sbcDpix _ => .sbc
  | .sep _ => .sep
  | .sbcSrel _ => .sbc
  | .cpxDpag _ => .cpx
  | .sbcDpag _ => .sbc
  | .incDpag _ => .inc
  | .sbcDpil _ => .sbc
  | .inx => .inx
  | .sbcImmm _ => .sbc
  | .nop => .nop
  | .xba => .xba
  | .cpxAbs _ => .cpx
  | .sbcAbs _ => .sbc
  | .incAbs _ => .inc
  | .sbcAlng _ => .sbc
  | .beq _ => .beq
  | .sbcDpiy _ => .sbc
  | .sbcDpgi _ => .sbc
  | .sbcSriy _ => .sbc
  | .pea _ => .pea
  | .sbcDpgx _ => .sbc
  | .incDpgx _ => .inc
  | .sbcDily _ => .sbc
  | .sed => .sed
  | .sbcAbsy _ => .sbc
  | .plx => .plx
  | .xce => .xce
  | .jsrAbxi _ => .jsr
  | .sbcAbsx _ => .sbc
  | .incAbsx _ => .inc
  | .sbcAlnx _ => .sbc

/-- The mode and operand of an instruction. -/
def operand : Instr → Operand
  | .brk sig => .immb sig
  | .oraDpix d => .dpix d
  | .cop sig => .immb sig
  | .oraSrel d => .srel d
  | .tsbDpag d => .dpag d
  | .oraDpag d => .dpag d
  | .aslDpag d => .dpag d
  | .oraDpil d => .dpil d
  | .php => .impl
  | .oraImmm v => .immm v
  | .aslAcc => .acc
  | .phd => .impl
  | .tsbAbs w => .abs w
  | .oraAbs w => .abs w
  | .aslAbs w => .abs w
  | .oraAlng l => .alng l
  | .bpl d => .rela d
  | .oraDpiy d => .dpiy d
  | .oraDpgi d => .dpgi d
  | .oraSriy d => .sriy d
  | .trbDpag d => .dpag d
  | .oraDpgx d => .dpgx d
  | .aslDpgx d => .dpgx d
  | .oraDily d => .dily d
  | .clc => .impl
  | .oraAbsy w => .absy w
  | .incAcc => .acc
  | .tcs => .impl
  | .trbAbs w => .abs w
  | .oraAbsx w => .absx w
  | .aslAbsx w => .absx w
  | .oraAlnx l => .alnx l
  | .jsrAbs w => .abs w
  | .andDpix d => .dpix d
  | .jsl l => .alng l
  | .andSrel d => .srel d
  | .bitDpag d => .dpag d
  | .andDpag d => .dpag d
  | .rolDpag d => .dpag d
  | .andDpil d => .dpil d
  | .plp => .impl
  | .andImmm v => .immm v
  | .rolAcc => .acc
  | .pld => .impl
  | .bitAbs w => .abs w
  | .andAbs w => .abs w
  | .rolAbs w => .abs w
  | .andAlng l => .alng l
  | .bmi d => .rela d
  | .andDpiy d => .dpiy d
  | .andDpgi d => .dpgi d
  | .andSriy d => .sriy d
  | .bitDpgx d => .dpgx d
  | .andDpgx d => .dpgx d
  | .rolDpgx d => .dpgx d
  | .andDily d => .dily d
  | .sec => .impl
  | .andAbsy w => .absy w
  | .decAcc => .acc
  | .tsc => .impl
  | .bitAbsx w => .absx w
  | .andAbsx w => .absx w
  | .rolAbsx w => .absx w
  | .andAlnx l => .alnx l
  | .rti => .impl
  | .eorDpix d => .dpix d
  | .wdm b => .immb b
  | .eorSrel d => .srel d
  | .mvp dst src => .immw (src ++ dst)
  | .eorDpag d => .dpag d
  | .lsrDpag d => .dpag d
  | .eorDpil d => .dpil d
  | .pha => .impl
  | .eorImmm v => .immm v
  | .lsrAcc => .acc
  | .phk => .impl
  | .jmpAbs w => .abs w
  | .eorAbs w => .abs w
  | .lsrAbs w => .abs w
  | .eorAlng l => .alng l
  | .bvc d => .rela d
  | .eorDpiy d => .dpiy d
  | .eorDpgi d => .dpgi d
  | .eorSriy d => .sriy d
  | .mvn dst src => .immw (src ++ dst)
  | .eorDpgx d => .dpgx d
  | .lsrDpgx d => .dpgx d
  | .eorDily d => .dily d
  | .cli => .impl
  | .eorAbsy w => .absy w
  | .phy => .impl
  | .tcd => .impl
  | .jmpAlng l => .alng l
  | .eorAbsx w => .absx w
  | .lsrAbsx w => .absx w
  | .eorAlnx l => .alnx l
  | .rts => .impl
  | .adcDpix d => .dpix d
  | .per w => .lrel w
  | .adcSrel d => .srel d
  | .stzDpag d => .dpag d
  | .adcDpag d => .dpag d
  | .rorDpag d => .dpag d
  | .adcDpil d => .dpil d
  | .pla => .impl
  | .adcImmm v => .immm v
  | .rorAcc => .acc
  | .rtl => .impl
  | .jmpAbsi w => .absi w
  | .adcAbs w => .abs w
  | .rorAbs w => .abs w
  | .adcAlng l => .alng l
  | .bvs d => .rela d
  | .adcDpiy d => .dpiy d
  | .adcDpgi d => .dpgi d
  | .adcSriy d => .sriy d
  | .stzDpgx d => .dpgx d
  | .adcDpgx d => .dpgx d
  | .rorDpgx d => .dpgx d
  | .adcDily d => .dily d
  | .sei => .impl
  | .adcAbsy w => .absy w
  | .ply => .impl
  | .tdc => .impl
  | .jmpAbxi w => .abxi w
  | .adcAbsx w => .absx w
  | .rorAbsx w => .absx w
  | .adcAlnx l => .alnx l
  | .bra d => .rela d
  | .staDpix d => .dpix d
  | .brl w => .lrel w
  | .staSrel d => .srel d
  | .styDpag d => .dpag d
  | .staDpag d => .dpag d
  | .stxDpag d => .dpag d
  | .staDpil d => .dpil d
  | .dey => .impl
  | .bitImmm v => .immm v
  | .txa => .impl
  | .phb => .impl
  | .styAbs w => .abs w
  | .staAbs w => .abs w
  | .stxAbs w => .abs w
  | .staAlng l => .alng l
  | .bcc d => .rela d
  | .staDpiy d => .dpiy d
  | .staDpgi d => .dpgi d
  | .staSriy d => .sriy d
  | .styDpgx d => .dpgx d
  | .staDpgx d => .dpgx d
  | .stxDpgy d => .dpgy d
  | .staDily d => .dily d
  | .tya => .impl
  | .staAbsy w => .absy w
  | .txs => .impl
  | .txy => .impl
  | .stzAbs w => .abs w
  | .staAbsx w => .absx w
  | .stzAbsx w => .absx w
  | .staAlnx l => .alnx l
  | .ldyImmx v => .immx v
  | .ldaDpix d => .dpix d
  | .ldxImmx v => .immx v
  | .ldaSrel d => .srel d
  | .ldyDpag d => .dpag d
  | .ldaDpag d => .dpag d
  | .ldxDpag d => .dpag d
  | .ldaDpil d => .dpil d
  | .tay => .impl
  | .ldaImmm v => .immm v
  | .tax => .impl
  | .plb => .impl
  | .ldyAbs w => .abs w
  | .ldaAbs w => .abs w
  | .ldxAbs w => .abs w
  | .ldaAlng l => .alng l
  | .bcs d => .rela d
  | .ldaDpiy d => .dpiy d
  | .ldaDpgi d => .dpgi d
  | .ldaSriy d => .sriy d
  | .ldyDpgx d => .dpgx d
  | .ldaDpgx d => .dpgx d
  | .ldxDpgy d => .dpgy d
  | .ldaDily d => .dily d
  | .clv => .impl
  | .ldaAbsy w => .absy w
  | .tsx => .impl
  | .tyx => .impl
  | .ldyAbsx w => .absx w
  | .ldaAbsx w => .absx w
  | .ldxAbsy w => .absy w
  | .ldaAlnx l => .alnx l
  | .cpyImmx v => .immx v
  | .cmpDpix d => .dpix d
  | .rep b => .immb b
  | .cmpSrel d => .srel d
  | .cpyDpag d => .dpag d
  | .cmpDpag d => .dpag d
  | .decDpag d => .dpag d
  | .cmpDpil d => .dpil d
  | .iny => .impl
  | .cmpImmm v => .immm v
  | .dex => .impl
  | .wai => .impl
  | .cpyAbs w => .abs w
  | .cmpAbs w => .abs w
  | .decAbs w => .abs w
  | .cmpAlng l => .alng l
  | .bne d => .rela d
  | .cmpDpiy d => .dpiy d
  | .cmpDpgi d => .dpgi d
  | .cmpSriy d => .sriy d
  | .pei d => .dpag d
  | .cmpDpgx d => .dpgx d
  | .decDpgx d => .dpgx d
  | .cmpDily d => .dily d
  | .cld => .impl
  | .cmpAbsy w => .absy w
  | .phx => .impl
  | .stp => .impl
  | .jmpAbil w => .abil w
  | .cmpAbsx w => .absx w
  | .decAbsx w => .absx w
  | .cmpAlnx l => .alnx l
  | .cpxImmx v => .immx v
  | .sbcDpix d => .dpix d
  | .sep b => .immb b
  | .sbcSrel d => .srel d
  | .cpxDpag d => .dpag d
  | .sbcDpag d => .dpag d
  | .incDpag d => .dpag d
  | .sbcDpil d => .dpil d
  | .inx => .impl
  | .sbcImmm v => .immm v
  | .nop => .impl
  | .xba => .impl
  | .cpxAbs w => .abs w
  | .sbcAbs w => .abs w
  | .incAbs w => .abs w
  | .sbcAlng l => .alng l
  | .beq d => .rela d
  | .sbcDpiy d => .dpiy d
  | .sbcDpgi d => .dpgi d
  | .sbcSriy d => .sriy d
  | .pea w => .immw w
  | .sbcDpgx d => .dpgx d
  | .incDpgx d => .dpgx d
  | .sbcDily d => .dily d
  | .sed => .impl
  | .sbcAbsy w => .absy w
  | .plx => .impl
  | .xce => .impl
  | .jsrAbxi w => .abxi w
  | .sbcAbsx w => .absx w
  | .incAbsx w => .absx w
  | .sbcAlnx l => .alnx l

end Instr

end Sys2Proof
end

