-- ==== Sys2Proof/Config.lean ====
section
/-! DEFINITION. What an implementation fixes (spec/00_scope.md R6, spec/20_memory.md R61): the OPEN parameters as plain data, and the two parameters the spec decides as constants. -/

namespace Sys2Proof

/-- Bytes by index, in one canonical form (see `Machine/Memory.lean`). -/
abbrev Memory := List Host.Cell

/-- What `HCOST` may depend on (spec/70_reset_and_hazards.md R371): mnemonic, mode, `m8`, `x8`, `E`. -/
structure CostKey where
  op   : Op
  mode : Mode
  m8   : Bool
  x8   : Bool
  e    : Bool
  deriving DecidableEq, Repr

/-- The OPEN parameters, "configured once before first use" (spec/00_scope.md R6). They are a field of State that nothing
writes (DESIGN CHOICE, safe: every statement over all states holds for every configuration; notes/assumptions/1.md). -/
structure Config where
  /-- `k` of `MASK = 2^k - 1` (spec/20_memory.md R61). -/
  maskBits : Nat
  /-- `RAM_SIZE`, the number of bytes of the read-write region. -/
  ramSize : Nat
  /-- The number of bytes of `ROM`. -/
  romSize : Nat
  /-- The contents of `ROM` by ROM index; an unlisted index holds the byte that `unlistedByte` names (notes/assumptions/14.md). -/
  rom : Memory
  /-- `WDM_STOP`, the operand bytes of WDM that set HALTED (spec/49_control_special.md R317). -/
  wdmStop : List Byte
  /-- `HCOST` less one, for the keys listed; a key not listed costs 1 (spec/70_reset_and_hazards.md R371: at least 1). -/
  hcost : List (CostKey × Nat)
  deriving DecidableEq, Repr

/-- The two readings of where decimal ADC and SBC take C and V from (spec/90_conflicts.md C1). -/
inductive DecFlagsFrom where
  | corrected
  | uncorrected
  deriving DecidableEq, Repr

/-- `DEC_FLAGS_FROM`: the spec decides `corrected` (spec/00_scope.md R6, spec/42_alu.md R170; notes/assumptions/10.md). -/
def Config.decFlagsFrom : DecFlagsFrom := .corrected

/-- The two readings of the bank the pointer of `(a)` is read from (spec/40_step_and_addressing.md R131). -/
inductive AbsiPtrBank where
  | pbr
  | bank0
  deriving DecidableEq, Repr

/-- `ABSI_PTR_BANK`: the spec decides PBR (spec/00_scope.md R6, R131; notes/assumptions/10.md). -/
def Config.absiPtrBank : AbsiPtrBank := .pbr

end Sys2Proof
end

