-- ==== Sys2Proof/WellFormed.lean ====
section
/-! DEFINITION. Well-formed instructions: the only check is that an immediate sized by a width flag fits the width in force (spec/30_encoding.md R93; every other operand value is accepted, R96). -/

namespace Sys2Proof

/-- An operand fits the widths in force: an IMMM or IMMX operand has a zero high byte when its width is 8 bits. -/
def Operand.wf (m8 x8 : Bool) : Operand → Bool
  | .immm v => !m8 || v.toNat < 256
  | .immx v => !x8 || v.toNat < 256
  | .impl | .acc | .immb _ | .immw _ | .abs _ | .absx _ | .absy _ | .absi _ | .abxi _ | .alng _ | .alnx _ | .abil _
  | .dpag _ | .dpgx _ | .dpgy _ | .dpgi _ | .dpix _ | .dpiy _ | .dpil _ | .dily _ | .rela _ | .lrel _ | .srel _ | .sriy _ => true

/-- An instruction is well formed under the width predicates `m8` and `x8` (spec/10_state.md R30). -/
def Instr.wf (m8 x8 : Bool) (i : Instr) : Bool := i.operand.wf m8 x8

end Sys2Proof
end

