-- ==== Sys2Proof/Decode.lean ====
section
/-! DEFINITION. Decoding, total on any bytes (spec/30_encoding.md R90 to R100), and the encoder, both from the opcode map of R94. -/

namespace Sys2Proof

open Sys2Proof.Machine (lo hi wordOf addrOf bankOf offsetOf zext accessSize)

/-- `n(mode)` of the length function (spec/30_encoding.md R99): the operand bytes of a mode under the widths in force. -/
def Mode.operandBytes (m8 x8 : Bool) : Mode → Nat
  | .impl | .acc => 0
  | .immb | .dpag | .dpgx | .dpgy | .dpgi | .dpix | .dpiy | .dpil | .dily | .rela | .srel | .sriy => 1
  | .immw | .abs | .absx | .absy | .absi | .abxi | .abil | .lrel => 2
  | .alng | .alnx => 3
  | .immm => accessSize m8
  | .immx => accessSize x8

/-- The number of bytes an operand has under the widths in force. -/
def Operand.size (m8 x8 : Bool) (o : Operand) : Nat := o.mode.operandBytes m8 x8

/-- The length of an instruction in bytes (spec/30_encoding.md R99). -/
def Instr.length (m8 x8 : Bool) (i : Instr) : Nat := 1 + i.operand.size m8 x8

/-- The readings of the bytes after an opcode (spec/30_encoding.md R91): byte 1, byte 2, bytes 2:1, bytes 3:2:1, and the operands
sized by M and by X. -/
structure RawOperand where
  b1 : Byte
  b2 : Byte
  w  : Word
  l  : Addr
  vm : Word
  vx : Word

/-- The readings of three operand bytes under the widths in force. -/
def rawOperand (m8 x8 : Bool) (b1 b2 b3 : Byte) : RawOperand :=
  { b1 := b1, b2 := b2, w := wordOf b2 b1, l := addrOf b3 (wordOf b2 b1)
    vm := if m8 then zext b1 else wordOf b2 b1
    vx := if x8 then zext b1 else wordOf b2 b1 }

/-- Row 0x of the opcode map (spec/30_encoding.md R94), by the low nibble. -/
def decodeRow0 (r : RawOperand) : BitVec 4 → Instr
  | 0x0 => .brk r.b1
  | 0x1 => .oraDpix r.b1
  | 0x2 => .cop r.b1
  | 0x3 => .oraSrel r.b1
  | 0x4 => .tsbDpag r.b1
  | 0x5 => .oraDpag r.b1
  | 0x6 => .aslDpag r.b1
  | 0x7 => .oraDpil r.b1
  | 0x8 => .php
  | 0x9 => .oraImmm r.vm
  | 0xA => .aslAcc
  | 0xB => .phd
  | 0xC => .tsbAbs r.w
  | 0xD => .oraAbs r.w
  | 0xE => .aslAbs r.w
  | _ => .oraAlng r.l  -- 0xF

/-- Row 1x of the opcode map (spec/30_encoding.md R94), by the low nibble. -/
def decodeRow1 (r : RawOperand) : BitVec 4 → Instr
  | 0x0 => .bpl r.b1
  | 0x1 => .oraDpiy r.b1
  | 0x2 => .oraDpgi r.b1
  | 0x3 => .oraSriy r.b1
  | 0x4 => .trbDpag r.b1
  | 0x5 => .oraDpgx r.b1
  | 0x6 => .aslDpgx r.b1
  | 0x7 => .oraDily r.b1
  | 0x8 => .clc
  | 0x9 => .oraAbsy r.w
  | 0xA => .incAcc
  | 0xB => .tcs
  | 0xC => .trbAbs r.w
  | 0xD => .oraAbsx r.w
  | 0xE => .aslAbsx r.w
  | _ => .oraAlnx r.l  -- 0xF

/-- Row 2x of the opcode map (spec/30_encoding.md R94), by the low nibble. -/
def decodeRow2 (r : RawOperand) : BitVec 4 → Instr
  | 0x0 => .jsrAbs r.w
  | 0x1 => .andDpix r.b1
  | 0x2 => .jsl r.l
  | 0x3 => .andSrel r.b1
  | 0x4 => .bitDpag r.b1
  | 0x5 => .andDpag r.b1
  | 0x6 => .rolDpag r.b1
  | 0x7 => .andDpil r.b1
  | 0x8 => .plp
  | 0x9 => .andImmm r.vm
  | 0xA => .rolAcc
  | 0xB => .pld
  | 0xC => .bitAbs r.w
  | 0xD => .andAbs r.w
  | 0xE => .rolAbs r.w
  | _ => .andAlng r.l  -- 0xF

/-- Row 3x of the opcode map (spec/30_encoding.md R94), by the low nibble. -/
def decodeRow3 (r : RawOperand) : BitVec 4 → Instr
  | 0x0 => .bmi r.b1
  | 0x1 => .andDpiy r.b1
  | 0x2 => .andDpgi r.b1
  | 0x3 => .andSriy r.b1
  | 0x4 => .bitDpgx r.b1
  | 0x5 => .andDpgx r.b1
  | 0x6 => .rolDpgx r.b1
  | 0x7 => .andDily r.b1
  | 0x8 => .sec
  | 0x9 => .andAbsy r.w
  | 0xA => .decAcc
  | 0xB => .tsc
  | 0xC => .bitAbsx r.w
  | 0xD => .andAbsx r.w
  | 0xE => .rolAbsx r.w
  | _ => .andAlnx r.l  -- 0xF

/-- Row 4x of the opcode map (spec/30_encoding.md R94), by the low nibble. -/
def decodeRow4 (r : RawOperand) : BitVec 4 → Instr
  | 0x0 => .rti
  | 0x1 => .eorDpix r.b1
  | 0x2 => .wdm r.b1
  | 0x3 => .eorSrel r.b1
  | 0x4 => .mvp r.b1 r.b2
  | 0x5 => .eorDpag r.b1
  | 0x6 => .lsrDpag r.b1
  | 0x7 => .eorDpil r.b1
  | 0x8 => .pha
  | 0x9 => .eorImmm r.vm
  | 0xA => .lsrAcc
  | 0xB => .phk
  | 0xC => .jmpAbs r.w
  | 0xD => .eorAbs r.w
  | 0xE => .lsrAbs r.w
  | _ => .eorAlng r.l  -- 0xF

/-- Row 5x of the opcode map (spec/30_encoding.md R94), by the low nibble. -/
def decodeRow5 (r : RawOperand) : BitVec 4 → Instr
  | 0x0 => .bvc r.b1
  | 0x1 => .eorDpiy r.b1
  | 0x2 => .eorDpgi r.b1
  | 0x3 => .eorSriy r.b1
  | 0x4 => .mvn r.b1 r.b2
  | 0x5 => .eorDpgx r.b1
  | 0x6 => .lsrDpgx r.b1
  | 0x7 => .eorDily r.b1
  | 0x8 => .cli
  | 0x9 => .eorAbsy r.w
  | 0xA => .phy
  | 0xB => .tcd
  | 0xC => .jmpAlng r.l
  | 0xD => .eorAbsx r.w
  | 0xE => .lsrAbsx r.w
  | _ => .eorAlnx r.l  -- 0xF

/-- Row 6x of the opcode map (spec/30_encoding.md R94), by the low nibble. -/
def decodeRow6 (r : RawOperand) : BitVec 4 → Instr
  | 0x0 => .rts
  | 0x1 => .adcDpix r.b1
  | 0x2 => .per r.w
  | 0x3 => .adcSrel r.b1
  | 0x4 => .stzDpag r.b1
  | 0x5 => .adcDpag r.b1
  | 0x6 => .rorDpag r.b1
  | 0x7 => .adcDpil r.b1
  | 0x8 => .pla
  | 0x9 => .adcImmm r.vm
  | 0xA => .rorAcc
  | 0xB => .rtl
  | 0xC => .jmpAbsi r.w
  | 0xD => .adcAbs r.w
  | 0xE => .rorAbs r.w
  | _ => .adcAlng r.l  -- 0xF

/-- Row 7x of the opcode map (spec/30_encoding.md R94), by the low nibble. -/
def decodeRow7 (r : RawOperand) : BitVec 4 → Instr
  | 0x0 => .bvs r.b1
  | 0x1 => .adcDpiy r.b1
  | 0x2 => .adcDpgi r.b1
  | 0x3 => .adcSriy r.b1
  | 0x4 => .stzDpgx r.b1
  | 0x5 => .adcDpgx r.b1
  | 0x6 => .rorDpgx r.b1
  | 0x7 => .adcDily r.b1
  | 0x8 => .sei
  | 0x9 => .adcAbsy r.w
  | 0xA => .ply
  | 0xB => .tdc
  | 0xC => .jmpAbxi r.w
  | 0xD => .adcAbsx r.w
  | 0xE => .rorAbsx r.w
  | _ => .adcAlnx r.l  -- 0xF

/-- Row 8x of the opcode map (spec/30_encoding.md R94), by the low nibble. -/
def decodeRow8 (r : RawOperand) : BitVec 4 → Instr
  | 0x0 => .bra r.b1
  | 0x1 => .staDpix r.b1
  | 0x2 => .brl r.w
  | 0x3 => .staSrel r.b1
  | 0x4 => .styDpag r.b1
  | 0x5 => .staDpag r.b1
  | 0x6 => .stxDpag r.b1
  | 0x7 => .staDpil r.b1
  | 0x8 => .dey
  | 0x9 => .bitImmm r.vm
  | 0xA => .txa
  | 0xB => .phb
  | 0xC => .styAbs r.w
  | 0xD => .staAbs r.w
  | 0xE => .stxAbs r.w
  | _ => .staAlng r.l  -- 0xF

/-- Row 9x of the opcode map (spec/30_encoding.md R94), by the low nibble. -/
def decodeRow9 (r : RawOperand) : BitVec 4 → Instr
  | 0x0 => .bcc r.b1
  | 0x1 => .staDpiy r.b1
  | 0x2 => .staDpgi r.b1
  | 0x3 => .staSriy r.b1
  | 0x4 => .styDpgx r.b1
  | 0x5 => .staDpgx r.b1
  | 0x6 => .stxDpgy r.b1
  | 0x7 => .staDily r.b1
  | 0x8 => .tya
  | 0x9 => .staAbsy r.w
  | 0xA => .txs
  | 0xB => .txy
  | 0xC => .stzAbs r.w
  | 0xD => .staAbsx r.w
  | 0xE => .stzAbsx r.w
  | _ => .staAlnx r.l  -- 0xF

/-- Row Ax of the opcode map (spec/30_encoding.md R94), by the low nibble. -/
def decodeRowA (r : RawOperand) : BitVec 4 → Instr
  | 0x0 => .ldyImmx r.vx
  | 0x1 => .ldaDpix r.b1
  | 0x2 => .ldxImmx r.vx
  | 0x3 => .ldaSrel r.b1
  | 0x4 => .ldyDpag r.b1
  | 0x5 => .ldaDpag r.b1
  | 0x6 => .ldxDpag r.b1
  | 0x7 => .ldaDpil r.b1
  | 0x8 => .tay
  | 0x9 => .ldaImmm r.vm
  | 0xA => .tax
  | 0xB => .plb
  | 0xC => .ldyAbs r.w
  | 0xD => .ldaAbs r.w
  | 0xE => .ldxAbs r.w
  | _ => .ldaAlng r.l  -- 0xF

/-- Row Bx of the opcode map (spec/30_encoding.md R94), by the low nibble. -/
def decodeRowB (r : RawOperand) : BitVec 4 → Instr
  | 0x0 => .bcs r.b1
  | 0x1 => .ldaDpiy r.b1
  | 0x2 => .ldaDpgi r.b1
  | 0x3 => .ldaSriy r.b1
  | 0x4 => .ldyDpgx r.b1
  | 0x5 => .ldaDpgx r.b1
  | 0x6 => .ldxDpgy r.b1
  | 0x7 => .ldaDily r.b1
  | 0x8 => .clv
  | 0x9 => .ldaAbsy r.w
  | 0xA => .tsx
  | 0xB => .tyx
  | 0xC => .ldyAbsx r.w
  | 0xD => .ldaAbsx r.w
  | 0xE => .ldxAbsy r.w
  | _ => .ldaAlnx r.l  -- 0xF

/-- Row Cx of the opcode map (spec/30_encoding.md R94), by the low nibble. -/
def decodeRowC (r : RawOperand) : BitVec 4 → Instr
  | 0x0 => .cpyImmx r.vx
  | 0x1 => .cmpDpix r.b1
  | 0x2 => .rep r.b1
  | 0x3 => .cmpSrel r.b1
  | 0x4 => .cpyDpag r.b1
  | 0x5 => .cmpDpag r.b1
  | 0x6 => .decDpag r.b1
  | 0x7 => .cmpDpil r.b1
  | 0x8 => .iny
  | 0x9 => .cmpImmm r.vm
  | 0xA => .dex
  | 0xB => .wai
  | 0xC => .cpyAbs r.w
  | 0xD => .cmpAbs r.w
  | 0xE => .decAbs r.w
  | _ => .cmpAlng r.l  -- 0xF

/-- Row Dx of the opcode map (spec/30_encoding.md R94), by the low nibble. -/
def decodeRowD (r : RawOperand) : BitVec 4 → Instr
  | 0x0 => .bne r.b1
  | 0x1 => .cmpDpiy r.b1
  | 0x2 => .cmpDpgi r.b1
  | 0x3 => .cmpSriy r.b1
  | 0x4 => .pei r.b1
  | 0x5 => .cmpDpgx r.b1
  | 0x6 => .decDpgx r.b1
  | 0x7 => .cmpDily r.b1
  | 0x8 => .cld
  | 0x9 => .cmpAbsy r.w
  | 0xA => .phx
  | 0xB => .stp
  | 0xC => .jmpAbil r.w
  | 0xD => .cmpAbsx r.w
  | 0xE => .decAbsx r.w
  | _ => .cmpAlnx r.l  -- 0xF

/-- Row Ex of the opcode map (spec/30_encoding.md R94), by the low nibble. -/
def decodeRowE (r : RawOperand) : BitVec 4 → Instr
  | 0x0 => .cpxImmx r.vx
  | 0x1 => .sbcDpix r.b1
  | 0x2 => .sep r.b1
  | 0x3 => .sbcSrel r.b1
  | 0x4 => .cpxDpag r.b1
  | 0x5 => .sbcDpag r.b1
  | 0x6 => .incDpag r.b1
  | 0x7 => .sbcDpil r.b1
  | 0x8 => .inx
  | 0x9 => .sbcImmm r.vm
  | 0xA => .nop
  | 0xB => .xba
  | 0xC => .cpxAbs r.w
  | 0xD => .sbcAbs r.w
  | 0xE => .incAbs r.w
  | _ => .sbcAlng r.l  -- 0xF

/-- Row Fx of the opcode map (spec/30_encoding.md R94), by the low nibble. -/
def decodeRowF (r : RawOperand) : BitVec 4 → Instr
  | 0x0 => .beq r.b1
  | 0x1 => .sbcDpiy r.b1
  | 0x2 => .sbcDpgi r.b1
  | 0x3 => .sbcSriy r.b1
  | 0x4 => .pea r.w
  | 0x5 => .sbcDpgx r.b1
  | 0x6 => .incDpgx r.b1
  | 0x7 => .sbcDily r.b1
  | 0x8 => .sed
  | 0x9 => .sbcAbsy r.w
  | 0xA => .plx
  | 0xB => .xce
  | 0xC => .jsrAbxi r.w
  | 0xD => .sbcAbsx r.w
  | 0xE => .incAbsx r.w
  | _ => .sbcAlnx r.l  -- 0xF

/-- The instruction of an opcode and the three bytes after it. No opcode is illegal (spec/30_encoding.md R96). -/
def decodeBytes (m8 x8 : Bool) (b0 b1 b2 b3 : Byte) : Instr :=
  let r := rawOperand m8 x8 b1 b2 b3
  let low := b0.extractLsb' 0 4
  match b0.extractLsb' 4 4 with
  | 0x0 => decodeRow0 r low
  | 0x1 => decodeRow1 r low
  | 0x2 => decodeRow2 r low
  | 0x3 => decodeRow3 r low
  | 0x4 => decodeRow4 r low
  | 0x5 => decodeRow5 r low
  | 0x6 => decodeRow6 r low
  | 0x7 => decodeRow7 r low
  | 0x8 => decodeRow8 r low
  | 0x9 => decodeRow9 r low
  | 0xA => decodeRowA r low
  | 0xB => decodeRowB r low
  | 0xC => decodeRowC r low
  | 0xD => decodeRowD r low
  | 0xE => decodeRowE r low
  | _ => decodeRowF r low  -- 0xF

/-- Why bytes are not an instruction: there is no opcode byte, or fewer operand bytes than the opcode's mode takes. -/
inductive DecodeError where
  | noOpcode
  | operandCutShort
  deriving DecidableEq, Repr

/-- The instruction at the head of a list of bytes, under the widths in force, with the bytes after it (spec/30_encoding.md R90,
R93). -/
def decode (m8 x8 : Bool) : List Byte → Except DecodeError (Instr × List Byte)
  | [] => .error .noOpcode
  | b0 :: rest =>
    let i := decodeBytes m8 x8 b0 (rest.getD 0 0) (rest.getD 1 0) (rest.getD 2 0)
    let n := i.operand.size m8 x8
    if n ≤ rest.length then .ok (i, rest.drop n) else .error .operandCutShort


/-- Row 0x of the opcode map as data: mnemonic and mode by the low nibble (spec/30_encoding.md R94). -/
def opcodeMapRow0 : List (Op × Mode) :=
  [(.brk, .immb), (.ora, .dpix), (.cop, .immb), (.ora, .srel), (.tsb, .dpag), (.ora, .dpag), (.asl, .dpag), (.ora, .dpil), (.php, .impl), (.ora, .immm), (.asl, .acc), (.phd, .impl), (.tsb, .abs), (.ora, .abs), (.asl, .abs), (.ora, .alng)]

/-- Row 1x of the opcode map as data: mnemonic and mode by the low nibble (spec/30_encoding.md R94). -/
def opcodeMapRow1 : List (Op × Mode) :=
  [(.bpl, .rela), (.ora, .dpiy), (.ora, .dpgi), (.ora, .sriy), (.trb, .dpag), (.ora, .dpgx), (.asl, .dpgx), (.ora, .dily), (.clc, .impl), (.ora, .absy), (.inc, .acc), (.tcs, .impl), (.trb, .abs), (.ora, .absx), (.asl, .absx), (.ora, .alnx)]

/-- Row 2x of the opcode map as data: mnemonic and mode by the low nibble (spec/30_encoding.md R94). -/
def opcodeMapRow2 : List (Op × Mode) :=
  [(.jsr, .abs), (.and, .dpix), (.jsl, .alng), (.and, .srel), (.bit, .dpag), (.and, .dpag), (.rol, .dpag), (.and, .dpil), (.plp, .impl), (.and, .immm), (.rol, .acc), (.pld, .impl), (.bit, .abs), (.and, .abs), (.rol, .abs), (.and, .alng)]

/-- Row 3x of the opcode map as data: mnemonic and mode by the low nibble (spec/30_encoding.md R94). -/
def opcodeMapRow3 : List (Op × Mode) :=
  [(.bmi, .rela), (.and, .dpiy), (.and, .dpgi), (.and, .sriy), (.bit, .dpgx), (.and, .dpgx), (.rol, .dpgx), (.and, .dily), (.sec, .impl), (.and, .absy), (.dec, .acc), (.tsc, .impl), (.bit, .absx), (.and, .absx), (.rol, .absx), (.and, .alnx)]

/-- Row 4x of the opcode map as data: mnemonic and mode by the low nibble (spec/30_encoding.md R94). -/
def opcodeMapRow4 : List (Op × Mode) :=
  [(.rti, .impl), (.eor, .dpix), (.wdm, .immb), (.eor, .srel), (.mvp, .immw), (.eor, .dpag), (.lsr, .dpag), (.eor, .dpil), (.pha, .impl), (.eor, .immm), (.lsr, .acc), (.phk, .impl), (.jmp, .abs), (.eor, .abs), (.lsr, .abs), (.eor, .alng)]

/-- Row 5x of the opcode map as data: mnemonic and mode by the low nibble (spec/30_encoding.md R94). -/
def opcodeMapRow5 : List (Op × Mode) :=
  [(.bvc, .rela), (.eor, .dpiy), (.eor, .dpgi), (.eor, .sriy), (.mvn, .immw), (.eor, .dpgx), (.lsr, .dpgx), (.eor, .dily), (.cli, .impl), (.eor, .absy), (.phy, .impl), (.tcd, .impl), (.jmp, .alng), (.eor, .absx), (.lsr, .absx), (.eor, .alnx)]

/-- Row 6x of the opcode map as data: mnemonic and mode by the low nibble (spec/30_encoding.md R94). -/
def opcodeMapRow6 : List (Op × Mode) :=
  [(.rts, .impl), (.adc, .dpix), (.per, .lrel), (.adc, .srel), (.stz, .dpag), (.adc, .dpag), (.ror, .dpag), (.adc, .dpil), (.pla, .impl), (.adc, .immm), (.ror, .acc), (.rtl, .impl), (.jmp, .absi), (.adc, .abs), (.ror, .abs), (.adc, .alng)]

/-- Row 7x of the opcode map as data: mnemonic and mode by the low nibble (spec/30_encoding.md R94). -/
def opcodeMapRow7 : List (Op × Mode) :=
  [(.bvs, .rela), (.adc, .dpiy), (.adc, .dpgi), (.adc, .sriy), (.stz, .dpgx), (.adc, .dpgx), (.ror, .dpgx), (.adc, .dily), (.sei, .impl), (.adc, .absy), (.ply, .impl), (.tdc, .impl), (.jmp, .abxi), (.adc, .absx), (.ror, .absx), (.adc, .alnx)]

/-- Row 8x of the opcode map as data: mnemonic and mode by the low nibble (spec/30_encoding.md R94). -/
def opcodeMapRow8 : List (Op × Mode) :=
  [(.bra, .rela), (.sta, .dpix), (.brl, .lrel), (.sta, .srel), (.sty, .dpag), (.sta, .dpag), (.stx, .dpag), (.sta, .dpil), (.dey, .impl), (.bit, .immm), (.txa, .impl), (.phb, .impl), (.sty, .abs), (.sta, .abs), (.stx, .abs), (.sta, .alng)]

/-- Row 9x of the opcode map as data: mnemonic and mode by the low nibble (spec/30_encoding.md R94). -/
def opcodeMapRow9 : List (Op × Mode) :=
  [(.bcc, .rela), (.sta, .dpiy), (.sta, .dpgi), (.sta, .sriy), (.sty, .dpgx), (.sta, .dpgx), (.stx, .dpgy), (.sta, .dily), (.tya, .impl), (.sta, .absy), (.txs, .impl), (.txy, .impl), (.stz, .abs), (.sta, .absx), (.stz, .absx), (.sta, .alnx)]

/-- Row Ax of the opcode map as data: mnemonic and mode by the low nibble (spec/30_encoding.md R94). -/
def opcodeMapRowA : List (Op × Mode) :=
  [(.ldy, .immx), (.lda, .dpix), (.ldx, .immx), (.lda, .srel), (.ldy, .dpag), (.lda, .dpag), (.ldx, .dpag), (.lda, .dpil), (.tay, .impl), (.lda, .immm), (.tax, .impl), (.plb, .impl), (.ldy, .abs), (.lda, .abs), (.ldx, .abs), (.lda, .alng)]

/-- Row Bx of the opcode map as data: mnemonic and mode by the low nibble (spec/30_encoding.md R94). -/
def opcodeMapRowB : List (Op × Mode) :=
  [(.bcs, .rela), (.lda, .dpiy), (.lda, .dpgi), (.lda, .sriy), (.ldy, .dpgx), (.lda, .dpgx), (.ldx, .dpgy), (.lda, .dily), (.clv, .impl), (.lda, .absy), (.tsx, .impl), (.tyx, .impl), (.ldy, .absx), (.lda, .absx), (.ldx, .absy), (.lda, .alnx)]

/-- Row Cx of the opcode map as data: mnemonic and mode by the low nibble (spec/30_encoding.md R94). -/
def opcodeMapRowC : List (Op × Mode) :=
  [(.cpy, .immx), (.cmp, .dpix), (.rep, .immb), (.cmp, .srel), (.cpy, .dpag), (.cmp, .dpag), (.dec, .dpag), (.cmp, .dpil), (.iny, .impl), (.cmp, .immm), (.dex, .impl), (.wai, .impl), (.cpy, .abs), (.cmp, .abs), (.dec, .abs), (.cmp, .alng)]

/-- Row Dx of the opcode map as data: mnemonic and mode by the low nibble (spec/30_encoding.md R94). -/
def opcodeMapRowD : List (Op × Mode) :=
  [(.bne, .rela), (.cmp, .dpiy), (.cmp, .dpgi), (.cmp, .sriy), (.pei, .dpag), (.cmp, .dpgx), (.dec, .dpgx), (.cmp, .dily), (.cld, .impl), (.cmp, .absy), (.phx, .impl), (.stp, .impl), (.jmp, .abil), (.cmp, .absx), (.dec, .absx), (.cmp, .alnx)]

/-- Row Ex of the opcode map as data: mnemonic and mode by the low nibble (spec/30_encoding.md R94). -/
def opcodeMapRowE : List (Op × Mode) :=
  [(.cpx, .immx), (.sbc, .dpix), (.sep, .immb), (.sbc, .srel), (.cpx, .dpag), (.sbc, .dpag), (.inc, .dpag), (.sbc, .dpil), (.inx, .impl), (.sbc, .immm), (.nop, .impl), (.xba, .impl), (.cpx, .abs), (.sbc, .abs), (.inc, .abs), (.sbc, .alng)]

/-- Row Fx of the opcode map as data: mnemonic and mode by the low nibble (spec/30_encoding.md R94). -/
def opcodeMapRowF : List (Op × Mode) :=
  [(.beq, .rela), (.sbc, .dpiy), (.sbc, .dpgi), (.sbc, .sriy), (.pea, .immw), (.sbc, .dpgx), (.inc, .dpgx), (.sbc, .dily), (.sed, .impl), (.sbc, .absy), (.plx, .impl), (.xce, .impl), (.jsr, .abxi), (.sbc, .absx), (.inc, .absx), (.sbc, .alnx)]

/-- The opcode map as data, row by row (spec/30_encoding.md R94). -/
def opcodeMap : List (List (Op × Mode)) :=
  [opcodeMapRow0, opcodeMapRow1, opcodeMapRow2, opcodeMapRow3, opcodeMapRow4, opcodeMapRow5, opcodeMapRow6, opcodeMapRow7,
   opcodeMapRow8, opcodeMapRow9, opcodeMapRowA, opcodeMapRowB, opcodeMapRowC, opcodeMapRowD, opcodeMapRowE, opcodeMapRowF]

/-- The mnemonic and mode of an opcode: row by its high nibble, column by its low nibble (spec/30_encoding.md R94). -/
def opcodeEntry (b : Byte) : Option (Op × Mode) :=
  (opcodeMap[(b.extractLsb' 4 4).toNat]?).bind fun row => row[(b.extractLsb' 0 4).toNat]?

namespace Instr

/-- The opcode byte of an instruction (spec/30_encoding.md R94). -/
def opcode : Instr → Byte
  | .brk _ => 0x00
  | .oraDpix _ => 0x01
  | .cop _ => 0x02
  | .oraSrel _ => 0x03
  | .tsbDpag _ => 0x04
  | .oraDpag _ => 0x05
  | .aslDpag _ => 0x06
  | .oraDpil _ => 0x07
  | .php => 0x08
  | .oraImmm _ => 0x09
  | .aslAcc => 0x0A
  | .phd => 0x0B
  | .tsbAbs _ => 0x0C
  | .oraAbs _ => 0x0D
  | .aslAbs _ => 0x0E
  | .oraAlng _ => 0x0F
  | .bpl _ => 0x10
  | .oraDpiy _ => 0x11
  | .oraDpgi _ => 0x12
  | .oraSriy _ => 0x13
  | .trbDpag _ => 0x14
  | .oraDpgx _ => 0x15
  | .aslDpgx _ => 0x16
  | .oraDily _ => 0x17
  | .clc => 0x18
  | .oraAbsy _ => 0x19
  | .incAcc => 0x1A
  | .tcs => 0x1B
  | .trbAbs _ => 0x1C
  | .oraAbsx _ => 0x1D
  | .aslAbsx _ => 0x1E
  | .oraAlnx _ => 0x1F
  | .jsrAbs _ => 0x20
  | .andDpix _ => 0x21
  | .jsl _ => 0x22
  | .andSrel _ => 0x23
  | .bitDpag _ => 0x24
  | .andDpag _ => 0x25
  | .rolDpag _ => 0x26
  | .andDpil _ => 0x27
  | .plp => 0x28
  | .andImmm _ => 0x29
  | .rolAcc => 0x2A
  | .pld => 0x2B
  | .bitAbs _ => 0x2C
  | .andAbs _ => 0x2D
  | .rolAbs _ => 0x2E
  | .andAlng _ => 0x2F
  | .bmi _ => 0x30
  | .andDpiy _ => 0x31
  | .andDpgi _ => 0x32
  | .andSriy _ => 0x33
  | .bitDpgx _ => 0x34
  | .andDpgx _ => 0x35
  | .rolDpgx _ => 0x36
  | .andDily _ => 0x37
  | .sec => 0x38
  | .andAbsy _ => 0x39
  | .decAcc => 0x3A
  | .tsc => 0x3B
  | .bitAbsx _ => 0x3C
  | .andAbsx _ => 0x3D
  | .rolAbsx _ => 0x3E
  | .andAlnx _ => 0x3F
  | .rti => 0x40
  | .eorDpix _ => 0x41
  | .wdm _ => 0x42
  | .eorSrel _ => 0x43
  | .mvp _ _ => 0x44
  | .eorDpag _ => 0x45
  | .lsrDpag _ => 0x46
  | .eorDpil _ => 0x47
  | .pha => 0x48
  | .eorImmm _ => 0x49
  | .lsrAcc => 0x4A
  | .phk => 0x4B
  | .jmpAbs _ => 0x4C
  | .eorAbs _ => 0x4D
  | .lsrAbs _ => 0x4E
  | .eorAlng _ => 0x4F
  | .bvc _ => 0x50
  | .eorDpiy _ => 0x51
  | .eorDpgi _ => 0x52
  | .eorSriy _ => 0x53
  | .mvn _ _ => 0x54
  | .eorDpgx _ => 0x55
  | .lsrDpgx _ => 0x56
  | .eorDily _ => 0x57
  | .cli => 0x58
  | .eorAbsy _ => 0x59
  | .phy => 0x5A
  | .tcd => 0x5B
  | .jmpAlng _ => 0x5C
  | .eorAbsx _ => 0x5D
  | .lsrAbsx _ => 0x5E
  | .eorAlnx _ => 0x5F
  | .rts => 0x60
  | .adcDpix _ => 0x61
  | .per _ => 0x62
  | .adcSrel _ => 0x63
  | .stzDpag _ => 0x64
  | .adcDpag _ => 0x65
  | .rorDpag _ => 0x66
  | .adcDpil _ => 0x67
  | .pla => 0x68
  | .adcImmm _ => 0x69
  | .rorAcc => 0x6A
  | .rtl => 0x6B
  | .jmpAbsi _ => 0x6C
  | .adcAbs _ => 0x6D
  | .rorAbs _ => 0x6E
  | .adcAlng _ => 0x6F
  | .bvs _ => 0x70
  | .adcDpiy _ => 0x71
  | .adcDpgi _ => 0x72
  | .adcSriy _ => 0x73
  | .stzDpgx _ => 0x74
  | .adcDpgx _ => 0x75
  | .rorDpgx _ => 0x76
  | .adcDily _ => 0x77
  | .sei => 0x78
  | .adcAbsy _ => 0x79
  | .ply => 0x7A
  | .tdc => 0x7B
  | .jmpAbxi _ => 0x7C
  | .adcAbsx _ => 0x7D
  | .rorAbsx _ => 0x7E
  | .adcAlnx _ => 0x7F
  | .bra _ => 0x80
  | .staDpix _ => 0x81
  | .brl _ => 0x82
  | .staSrel _ => 0x83
  | .styDpag _ => 0x84
  | .staDpag _ => 0x85
  | .stxDpag _ => 0x86
  | .staDpil _ => 0x87
  | .dey => 0x88
  | .bitImmm _ => 0x89
  | .txa => 0x8A
  | .phb => 0x8B
  | .styAbs _ => 0x8C
  | .staAbs _ => 0x8D
  | .stxAbs _ => 0x8E
  | .staAlng _ => 0x8F
  | .bcc _ => 0x90
  | .staDpiy _ => 0x91
  | .staDpgi _ => 0x92
  | .staSriy _ => 0x93
  | .styDpgx _ => 0x94
  | .staDpgx _ => 0x95
  | .stxDpgy _ => 0x96
  | .staDily _ => 0x97
  | .tya => 0x98
  | .staAbsy _ => 0x99
  | .txs => 0x9A
  | .txy => 0x9B
  | .stzAbs _ => 0x9C
  | .staAbsx _ => 0x9D
  | .stzAbsx _ => 0x9E
  | .staAlnx _ => 0x9F
  | .ldyImmx _ => 0xA0
  | .ldaDpix _ => 0xA1
  | .ldxImmx _ => 0xA2
  | .ldaSrel _ => 0xA3
  | .ldyDpag _ => 0xA4
  | .ldaDpag _ => 0xA5
  | .ldxDpag _ => 0xA6
  | .ldaDpil _ => 0xA7
  | .tay => 0xA8
  | .ldaImmm _ => 0xA9
  | .tax => 0xAA
  | .plb => 0xAB
  | .ldyAbs _ => 0xAC
  | .ldaAbs _ => 0xAD
  | .ldxAbs _ => 0xAE
  | .ldaAlng _ => 0xAF
  | .bcs _ => 0xB0
  | .ldaDpiy _ => 0xB1
  | .ldaDpgi _ => 0xB2
  | .ldaSriy _ => 0xB3
  | .ldyDpgx _ => 0xB4
  | .ldaDpgx _ => 0xB5
  | .ldxDpgy _ => 0xB6
  | .ldaDily _ => 0xB7
  | .clv => 0xB8
  | .ldaAbsy _ => 0xB9
  | .tsx => 0xBA
  | .tyx => 0xBB
  | .ldyAbsx _ => 0xBC
  | .ldaAbsx _ => 0xBD
  | .ldxAbsy _ => 0xBE
  | .ldaAlnx _ => 0xBF
  | .cpyImmx _ => 0xC0
  | .cmpDpix _ => 0xC1
  | .rep _ => 0xC2
  | .cmpSrel _ => 0xC3
  | .cpyDpag _ => 0xC4
  | .cmpDpag _ => 0xC5
  | .decDpag _ => 0xC6
  | .cmpDpil _ => 0xC7
  | .iny => 0xC8
  | .cmpImmm _ => 0xC9
  | .dex => 0xCA
  | .wai => 0xCB
  | .cpyAbs _ => 0xCC
  | .cmpAbs _ => 0xCD
  | .decAbs _ => 0xCE
  | .cmpAlng _ => 0xCF
  | .bne _ => 0xD0
  | .cmpDpiy _ => 0xD1
  | .cmpDpgi _ => 0xD2
  | .cmpSriy _ => 0xD3
  | .pei _ => 0xD4
  | .cmpDpgx _ => 0xD5
  | .decDpgx _ => 0xD6
  | .cmpDily _ => 0xD7
  | .cld => 0xD8
  | .cmpAbsy _ => 0xD9
  | .phx => 0xDA
  | .stp => 0xDB
  | .jmpAbil _ => 0xDC
  | .cmpAbsx _ => 0xDD
  | .decAbsx _ => 0xDE
  | .cmpAlnx _ => 0xDF
  | .cpxImmx _ => 0xE0
  | .sbcDpix _ => 0xE1
  | .sep _ => 0xE2
  | .sbcSrel _ => 0xE3
  | .cpxDpag _ => 0xE4
  | .sbcDpag _ => 0xE5
  | .incDpag _ => 0xE6
  | .sbcDpil _ => 0xE7
  | .inx => 0xE8
  | .sbcImmm _ => 0xE9
  | .nop => 0xEA
  | .xba => 0xEB
  | .cpxAbs _ => 0xEC
  | .sbcAbs _ => 0xED
  | .incAbs _ => 0xEE
  | .sbcAlng _ => 0xEF
  | .beq _ => 0xF0
  | .sbcDpiy _ => 0xF1
  | .sbcDpgi _ => 0xF2
  | .sbcSriy _ => 0xF3
  | .pea _ => 0xF4
  | .sbcDpgx _ => 0xF5
  | .incDpgx _ => 0xF6
  | .sbcDily _ => 0xF7
  | .sed => 0xF8
  | .sbcAbsy _ => 0xF9
  | .plx => 0xFA
  | .xce => 0xFB
  | .jsrAbxi _ => 0xFC
  | .sbcAbsx _ => 0xFD
  | .incAbsx _ => 0xFE
  | .sbcAlnx _ => 0xFF

end Instr

/-- The bytes of an operand under the widths in force, lowest address first (spec/30_encoding.md R91, R92). -/
def Operand.bytes (m8 x8 : Bool) : Operand → List Byte
  | .impl | .acc => []
  | .immb b => [b]
  | .dpag d | .dpgx d | .dpgy d | .dpgi d | .dpix d | .dpiy d | .dpil d | .dily d | .rela d | .srel d | .sriy d => [d]
  | .immw w | .abs w | .absx w | .absy w | .absi w | .abxi w | .abil w | .lrel w => [lo w, hi w]
  | .alng l | .alnx l => [lo (offsetOf l), hi (offsetOf l), bankOf l]
  | .immm v => if m8 then [lo v] else [lo v, hi v]
  | .immx v => if x8 then [lo v] else [lo v, hi v]

/-- The bytes of an instruction under the widths in force (spec/30_encoding.md R91). -/
def encode (m8 x8 : Bool) (i : Instr) : List Byte := i.opcode :: i.operand.bytes m8 x8

/-- The instruction read from the opcode-table word `w` of `nbits` bits, every bit above them 0: its bytes are `w`'s, the lowest
first, read under the widths in force after reset, `E = 1` (notes/assumptions/12.md). -/
def decodeTableWord (nbits w : Nat) : Option Instr :=
  let v := w % 2 ^ nbits
  match decode true true [BitVec.ofNat 8 v, BitVec.ofNat 8 (v / 2 ^ 8), BitVec.ofNat 8 (v / 2 ^ 16), BitVec.ofNat 8 (v / 2 ^ 24)] with
  | .ok (i, _) => some i
  | .error _ => none

end Sys2Proof
end

