-- ==== Sys2Proof/Machine/Memory.lean ====
section
/-! DEFINITION. AddressSpace (spec/20_memory.md R60 to R65): the mask, the RAM and ROM regions, and a byte of memory as a list of cells in one canonical form. -/

namespace Sys2Proof

/-- What an unlisted byte of memory or ROM reads as (DESIGN CHOICE, unsafe: the spec gives RAM no initial contents,
spec/70_reset_and_hazards.md R362; notes/assumptions/4.md). -/
def unlistedByte : Byte := 0x00#8

/-- The byte at an index. -/
def Memory.read : Memory → Nat → Byte
  | [], _ => unlistedByte
  | c :: m, a => if c.1 = a then c.2 else Memory.read m a

/-- The cells of other indexes than `a`. -/
def Memory.erase : Memory → Nat → Memory
  | [], _ => []
  | c :: m, a => if c.1 = a then Memory.erase m a else c :: Memory.erase m a

/-- A cell put before the first cell of a higher index. -/
def Memory.insert (c : Host.Cell) : Memory → Memory
  | [] => [c]
  | d :: m => if c.1 < d.1 then c :: d :: m else d :: Memory.insert c m

/-- `m` with index `a` holding `b`. Writing what an unlisted byte reads as removes the cell. -/
def Memory.write (m : Memory) (a : Nat) (b : Byte) : Memory :=
  if b = unlistedByte then m.erase a else (m.erase a).insert (a, b)

/-- The canonical form: indexes strictly rising, no cell equal to what an unlisted index reads as. -/
abbrev Memory.wf (m : Memory) : Prop :=
  m.Pairwise (fun c d => c.1 < d.1) ∧ ∀ c ∈ m, c.2 ≠ unlistedByte

namespace Config

/-- `MASK` (spec/20_memory.md R61). -/
def mask (c : Config) : Nat := 2 ^ c.maskBits - 1

/-- The configurations the spec accepts (spec/20_memory.md R61): `0 <= k <= 24` and a ROM of exactly `MASK + 1 - RAM_SIZE` bytes. -/
def wf (c : Config) : Bool := decide (c.maskBits ≤ 24) && decide (c.ramSize + c.romSize = 2 ^ c.maskBits)

/-- `addr & MASK`, as the remainder by `MASK + 1` (spec/20_memory.md R62: "reduced modulo a power-of-two mask"). -/
def index (c : Config) (a : Addr) : Nat := a.toNat % 2 ^ c.maskBits

/-- `ReadByte` (spec/20_memory.md R62). -/
def readByte (c : Config) (m : Memory) (a : Addr) : Byte :=
  if c.index a < c.ramSize then m.read (c.index a) else c.rom.read (c.index a - c.ramSize)

/-- `WriteByte` (spec/20_memory.md R63): the RAM after the write. -/
def writeByte (c : Config) (m : Memory) (a : Addr) (b : Byte) : Memory :=
  if c.index a < c.ramSize then m.write (c.index a) b else m

/-- `HCOST` (spec/70_reset_and_hazards.md R371): at least 1. -/
def handlerCost (c : Config) (k : CostKey) : Nat := 1 + (c.hcost.lookup k).getD 0

end Config

end Sys2Proof
end

