-- ==== Sys2Proof/Machine/State.lean ====
section
/-! DEFINITION. The state of the core (spec/10_state.md R20), the reasons a step can stop, and the machine right after reset. -/

namespace Sys2Proof.Machine

/-- Why a step stops the machine. No instruction faults (spec/60_exceptions.md R331); the one reason is the terminal state. -/
inductive Fault where
  /-- Raised by `step` alone, when HALTED = 1 and no reset is pending: the run is over and no step is defined
  (spec/60_exceptions.md R344, spec/93_implementation_defined.md U8: stuck). Safe (notes/assumptions/6.md). -/
  | halted
  deriving DecidableEq, Repr

/-- Why the model gives a step no meaning. -/
inductive Refusal where
  /-- Raised by an arm of `exec` for an instruction without a meaning; no arm raises it in this model. Safe. -/
  | notModelled (mnemonic : String)
  /-- Raised by `step` alone, when the configuration is not one the spec accepts (spec/20_memory.md R61,
  spec/93_implementation_defined.md U6, U10). Safe (notes/assumptions/7.md). -/
  | illFormedConfiguration
  deriving DecidableEq, Repr

/-- What the host does at one step boundary (spec/60_exceptions.md R345): the level it drives on INTSIG from then on, and
whether it applies reset (spec/70_reset_and_hazards.md R361). -/
structure HostAction where
  intsig : Bool
  reset  : Bool
  deriving DecidableEq, Repr

/-- The complete state (spec/10_state.md R20), with the host's input and the configuration as data beside it. -/
structure State where
  /-- `A`, the accumulator (R21). -/
  a : Word
  /-- `X`, an index register (R22). -/
  x : Word
  /-- `Y`, an index register (R22). -/
  y : Word
  /-- `SP`, the stack pointer (R23). -/
  sp : Word
  /-- `DP`, the direct-page base (R24). -/
  dp : Word
  /-- `PC`, the offset of the next instruction in bank `PBR` (R25). -/
  pc : Word
  /-- `PBR`, the program-bank register (R26). -/
  pbr : Byte
  /-- `DBR`, the data-bank register (R27). -/
  dbr : Byte
  /-- `P`, the status register; its layout is `Flag.bit` (R28). -/
  p : Byte
  /-- `E`, the emulation-mode bit (R29). -/
  e : Bool
  /-- `CYC`, the cycle total (R38). -/
  cyc : Nat
  /-- `HALTED` (R39). -/
  halted : Bool
  /-- `MEM`, the read-write region, by RAM index (R20). -/
  mem : Memory
  /-- The level of `INTSIG` (R40), which the core reads and never writes. -/
  intsig : Bool
  /-- The host's actions at the coming step boundaries, the next one first; none listed means the host does nothing
  (the model's own field; notes/assumptions/5.md). -/
  host : List HostAction
  /-- The configuration (spec/00_scope.md R6), which nothing writes (notes/assumptions/1.md). -/
  cfg : Config
  deriving DecidableEq, Repr

/-- The configuration of `State.reset`: the one the spec's own vectors assume (spec/95_test_vectors.md, Conventions), all RAM,
no ROM, WDM_STOP = FF, every HCOST 1 (DESIGN CHOICE, unsafe; notes/assumptions/2.md). -/
def Config.standard : Config :=
  { maskBits := 24, ramSize := 0x1000000, romSize := 0, rom := [], wdmStop := [0xFF#8], hcost := [] }

/-- The machine at power-on (DESIGN CHOICE for every field but the configuration; notes/assumptions/3.md, 4.md): zeros, nothing
listed in memory. Only the parts that reset leaves alone are ever seen. -/
def State.powerOn : State :=
  { a := 0, x := 0, y := 0, sp := 0, dp := 0, pc := 0, pbr := 0, dbr := 0, p := 0, e := false, cyc := 0, halted := false,
    mem := [], intsig := false, host := [], cfg := Config.standard }

/-- The machine right after reset (spec/10_state.md R41, spec/70_reset_and_hazards.md R360). `State.reset_eq_hostReset`
(Laws/Reset.lean) says that it is `State.powerOn` after the reset operation. -/
def State.reset : State :=
  { State.powerOn with
    e := true, pbr := 0x00, dbr := 0x00, dp := 0x0000, sp := 0x0100, p := 0x34
    x := zext (lo State.powerOn.x), y := zext (lo State.powerOn.y), cyc := 0, halted := false
    pc := wordOf (Config.standard.readByte [] 0x00FFFD) (Config.standard.readByte [] 0x00FFFC) }

end Sys2Proof.Machine
end

