-- ==== Sys2Proof/Machine/Flags.lean ====
section
/-! DEFINITION. The status register and every flag computation (spec/10_state.md R28 to R37, spec/42_alu.md R170, R176), with the accumulator and index registers at their width. -/

namespace Sys2Proof.Machine

/-- The eight flags of `P` (spec/10_state.md R28). -/
inductive Flag where
  | c | z | i | d | x | m | v | n
  deriving DecidableEq, Repr

/-- The bit of `P` each flag is (spec/10_state.md R28). -/
def Flag.bit : Flag → Nat
  | .c => 0
  | .z => 1
  | .i => 2
  | .d => 3
  | .x => 4
  | .m => 5
  | .v => 6
  | .n => 7

namespace State

/-- A flag's value. -/
def flag (s : State) (f : Flag) : Bool := s.p.getLsbD f.bit

/-- One flag written, the other bits of `P` kept. -/
def setFlag (f : Flag) (b : Bool) (s : State) : State := { s with p := setBit s.p f.bit b }

/-- The accumulator and memory operands are 8 bits wide (spec/10_state.md R30). -/
def m8 (s : State) : Bool := s.e || s.flag .m

/-- The index registers are 8 bits wide (spec/10_state.md R30). -/
def x8 (s : State) : Bool := s.e || s.flag .x

/-- `XV`, the value of X in address arithmetic (spec/10_state.md R31). -/
def xv (s : State) : Word := clip s.x8 s.x

/-- `YV`, the value of Y in address arithmetic (spec/10_state.md R31). -/
def yv (s : State) : Word := clip s.x8 s.y

/-- `SetNZ8` and `SetNZ16` (spec/10_state.md R36). -/
def setNZ (narrow : Bool) (v : Word) (s : State) : State :=
  (s.setFlag .n (signBit narrow v)).setFlag .z (isZero narrow v)

/-- `SetP` (spec/10_state.md R37): all of `P`, with M and X forced in emulation mode and the index registers truncated. -/
def setP (v : Byte) (s : State) : State :=
  let p := if s.e then v ||| 0x30#8 else v
  { s with p := p, x := clip (p.getLsbD Flag.x.bit) s.x, y := clip (p.getLsbD Flag.x.bit) s.y }

/-- The accumulator written at its width: an 8-bit write keeps `A[15:8]` (spec/10_state.md R21). -/
def writeA (narrow : Bool) (v : Word) (s : State) : State :=
  { s with a := if narrow then wordOf (hi s.a) (lo v) else v }

/-- X written at its width: an 8-bit write zeroes the high byte (spec/10_state.md R22). -/
def writeX (narrow : Bool) (v : Word) (s : State) : State := { s with x := clip narrow v }

/-- Y written at its width: an 8-bit write zeroes the high byte (spec/10_state.md R22). -/
def writeY (narrow : Bool) (v : Word) (s : State) : State := { s with y := clip narrow v }

end State

/-- One nibble's decimal correction: `if (temp & mask) > limit then temp + add`. -/
def adjustNibble (mask limit add temp : Nat) : Nat := if limit < temp &&& mask then temp + add else temp

/-- The decimal correction recipe, each test on the value the one before left (spec/42_alu.md R170). -/
def decimalCorrect (narrow : Bool) (temp : Nat) : Nat :=
  let t := adjustNibble 0x00F0 0x0090 0x0060 (adjustNibble 0x000F 0x0009 0x0006 temp)
  if narrow then t else adjustNibble 0xF000 0x9000 0x6000 (adjustNibble 0x0F00 0x0900 0x0600 t)

/-- What the adder gives: the result at its width, carry and overflow. -/
structure AddResult where
  value    : Word
  carry    : Bool
  overflow : Bool
  deriving DecidableEq, Repr

/-- `AddCore` (spec/42_alu.md R170) on values of the width in force; `DEC_FLAGS_FROM` says whether C and V come from the
corrected sum. -/
def addCore (narrow decimal : Bool) (a data : Word) (carryIn : Bool) : AddResult :=
  let w := if narrow then 8 else 16
  let sum := (clip narrow a).toNat + (clip narrow data).toNat + carryIn.toNat
  let temp := if decimal then decimalCorrect narrow sum else sum
  let source := match Config.decFlagsFrom with | .corrected => temp | .uncorrected => sum
  { value := clip narrow (BitVec.ofNat 16 temp)
    carry := source.testBit w
    overflow := (a.getLsbD (w - 1) == data.getLsbD (w - 1)) && (a.getLsbD (w - 1) != source.testBit (w - 1)) }

namespace State

/-- C, V, N and Z from the adder (spec/42_alu.md R170). -/
def setAddFlags (narrow : Bool) (r : AddResult) (s : State) : State :=
  ((s.setFlag .c r.carry).setFlag .v r.overflow).setNZ narrow r.value

/-- `Compare` (spec/42_alu.md R176): C, N and Z of `r - data`, unsigned and binary. -/
def compare (narrow : Bool) (r data : Word) (s : State) : State :=
  (s.setFlag .c ((clip narrow data).toNat ≤ (clip narrow r).toNat)).setNZ narrow (clip narrow r - clip narrow data)

end State

end Sys2Proof.Machine
end

