-- ==== Sys2Proof/Machine/Ops.lean ====
section
/-! DEFINITION. The named operations over memory and registers: memory access, the stack, taking an exception and returning from one, reset, the host's actions, the cycle count, fetching an instruction. -/

namespace Sys2Proof.Machine

/-- What an instruction's execution answers. -/
abbrev Outcome := Host.Outcome State Fault Refusal

namespace State

/-! ### Memory access (spec/20_memory.md) -/

/-- `ReadByte` (R62). -/
def readByte (s : State) (a : Addr) : Byte := s.cfg.readByte s.mem a

/-- `WriteByte` (R63). -/
def writeByte (a : Addr) (b : Byte) (s : State) : State := { s with mem := s.cfg.writeByte s.mem a b }

/-- `MemRead(a, 2)` (R64): the second byte is at the 24-bit `a + 1`. -/
def read16 (s : State) (a : Addr) : Word := wordOf (s.readByte (a + 1)) (s.readByte a)

/-- `MemRead(a, 3)` (R64). -/
def read24 (s : State) (a : Addr) : Addr := addrOf (s.readByte (a + 2)) (s.read16 a)

/-- `MemWrite(a, 2, v)` (R65): low byte first. -/
def write16 (a : Addr) (v : Word) (s : State) : State := (s.writeByte a (lo v)).writeByte (a + 1) (hi v)

/-- `MemRead` of one byte when `narrow`, else two, as a word (R68). -/
def readSized (narrow : Bool) (a : Addr) (s : State) : Word := if narrow then zext (s.readByte a) else s.read16 a

/-- `MemWrite` of one byte when `narrow`, else two (R68). -/
def writeSized (narrow : Bool) (a : Addr) (v : Word) (s : State) : State :=
  { s with mem :=
      if narrow then s.cfg.writeByte s.mem a (lo v)
      else s.cfg.writeByte (s.cfg.writeByte s.mem a (lo v)) (a + 1) (hi v) }

/-! ### The stack (spec/45_stack.md) -/

/-- The stack pointer after a push of one byte: only its low byte moves in emulation mode (R225). -/
def spDown (e : Bool) (sp : Word) : Word := if e then wordOf (hi sp) (lo sp - 1) else sp - 1

/-- The stack pointer after a pull of one byte (R227). -/
def spUp (e : Bool) (sp : Word) : Word := if e then wordOf (hi sp) (lo sp + 1) else sp + 1

/-- `Push8` (R225): the byte is written at `0x00:SP`, then SP moves down. -/
def push8 (v : Byte) (s : State) : State :=
  { s with mem := s.cfg.writeByte s.mem (addrOf 0 s.sp) v, sp := spDown s.e s.sp }

/-- `Push16` (R226): high byte first. -/
def push16 (v : Word) (s : State) : State := (s.push8 (hi v)).push8 (lo v)

/-- A push of one byte when `narrow`, else two. -/
def pushSized (narrow : Bool) (v : Word) (s : State) : State := if narrow then s.push8 (lo v) else s.push16 v

/-- SP moved up by one byte (R227). -/
def popped (s : State) : State := { s with sp := spUp s.e s.sp }

/-- `Pull8` (R227): SP moves up, then the byte at `0x00:SP` is read. -/
def pull8 (s : State) : Byte × State := (s.popped.readByte (addrOf 0 s.popped.sp), s.popped)

/-- `Pull16` (R228): the low byte comes off first. -/
def pull16 (s : State) : Word × State := (wordOf s.pull8.2.pull8.1 s.pull8.1, s.pull8.2.pull8.2)

/-- A pull of one byte when `narrow`, else two, as a word. -/
def pullSized (narrow : Bool) (s : State) : Word × State := if narrow then (zext s.pull8.1, s.pull8.2) else s.pull16

/-! ### Taking an exception and returning from one (spec/60_exceptions.md) -/

end State

/-- The two causes of exceptional control transfer (spec/60_exceptions.md R330, R332). -/
inductive SoftInterrupt where
  | brk | cop
  deriving DecidableEq, Repr

/-- The offset in bank 0 of a cause's vector, by the mode (spec/60_exceptions.md R332). -/
def SoftInterrupt.vector : SoftInterrupt → Bool → Word
  | .brk, true => 0xFFFE
  | .brk, false => 0xFFE6
  | .cop, true => 0xFFF4
  | .cop, false => 0xFFE4

namespace State

/-- The frame an entry pushes: PBR in native mode only, then PC, then P (spec/60_exceptions.md R333). -/
def pushFrame (s : State) : State := ((if s.e then s else s.push8 s.pbr).push16 s.pc).push8 s.p

/-- `raise BRK`, `raise COP` (spec/60_exceptions.md R333), with PC at the byte after the signature byte. -/
def takeInterrupt (k : SoftInterrupt) (s : State) : State :=
  let t := (s.pushFrame.setFlag .i true).setFlag .d false
  { t with pbr := 0x00, pc := t.read16 (addrOf 0x00 (k.vector s.e)) }

/-- Return from a software interrupt (spec/49_control_special.md R312, spec/60_exceptions.md R334): P, then PC, then PBR in
native mode only. -/
def returnFromInterrupt (s : State) : State :=
  let t := s.pull8.2.setP s.pull8.1
  let u := t.pull16.2
  { u with
    pc := t.pull16.1
    pbr := if s.e then u.pbr else u.pull8.1
    sp := if s.e then u.sp else u.pull8.2.sp }

/-! ### Reset and the host (spec/70_reset_and_hazards.md, spec/60_exceptions.md R345) -/

/-- The reset operation (R360). A, the low bytes of X and Y, memory and INTSIG are left alone (R362). -/
def hostReset (s : State) : State :=
  { s with
    e := true, pbr := 0x00, dbr := 0x00, dp := 0x0000, sp := 0x0100, p := 0x34
    x := zext (lo s.x), y := zext (lo s.y), cyc := 0, halted := false
    pc := s.read16 0x00FFFC }

/-- The host's next pending action taken: the level it drives, then its reset if it applies one. No pending action leaves the
state as it is. -/
def hostBoundary (s : State) : State :=
  match s.host with
  | [] => s
  | h :: rest =>
    let t := { s with host := rest, intsig := h.intsig }
    if h.reset then t.hostReset else t

/-! ### The cycle count (spec/70_reset_and_hazards.md) -/

end State

/-- The cycles a resolver adds (R370). -/
def modeCycles (m8 x8 : Bool) : Mode → Nat
  | .impl | .acc | .immb => 0
  | .immw => 1
  | .immm => accessSize m8 - 1
  | .immx => accessSize x8 - 1
  | .abs | .absx | .absy => 2
  | .absi | .abxi => 4
  | .alng | .alnx => 3
  | .abil => 5
  | .dpag | .dpgx | .dpgy => 1
  | .dpgi | .dpix | .dpiy => 3
  | .dpil | .dily => 4
  | .rela => 1
  | .lrel => 2
  | .srel => 1
  | .sriy => 3

namespace State

/-- The mode cost and `HCOST` of an instruction (R370, R371). -/
def instrCost (op : Op) (mode : Mode) (s : State) : Nat :=
  modeCycles s.m8 s.x8 mode +
    s.cfg.handlerCost { op := op, mode := mode, m8 := s.m8, x8 := s.x8, e := s.e }

/-! ### Fetching an instruction (spec/40_step_and_addressing.md R120, spec/30_encoding.md R92) -/

/-- The address of the opcode. -/
def opcodeAddr (s : State) : Addr := addrOf s.pbr s.pc

/-- The address of the first operand byte: the offset of the opcode plus 1, in the same bank; later operand bytes are at the
24-bit successors (R92). -/
def operandAddr (s : State) : Addr := addrOf s.pbr (s.pc + 1)

/-- The opcode and the three bytes that hold the longest operand. Reads have no effect (spec/20_memory.md R69), so reading
bytes the instruction does not have is unseen (notes/assumptions/11.md). -/
def fetchBytes (s : State) : List Byte :=
  [s.readByte s.opcodeAddr, s.readByte s.operandAddr, s.readByte (s.operandAddr + 1), s.readByte (s.operandAddr + 2)]

/-- The instruction at `PBR:PC`, decoded under the widths in force. -/
def fetchInstr (s : State) : Instr :=
  decodeBytes s.m8 s.x8 (s.readByte s.opcodeAddr) (s.readByte s.operandAddr) (s.readByte (s.operandAddr + 1))
    (s.readByte (s.operandAddr + 2))

/-- One byte loaded by the host from outside: into RAM, or into the contents of the ROM. -/
def loadByte (a : Addr) (b : Byte) (s : State) : State :=
  if s.cfg.index a < s.cfg.ramSize then { s with mem := s.mem.write (s.cfg.index a) b }
  else { s with cfg := { s.cfg with rom := s.cfg.rom.write (s.cfg.index a - s.cfg.ramSize) b } }

/-- The instruction whose first bytes are the low `nbits` bits of `w`, the rest zeros, loaded where the next step fetches, with
nothing pending that would keep the next step from running it. -/
def placeInstr (nbits w : Nat) (s : State) : State :=
  let v := w % 2 ^ nbits
  let t := ((s.loadByte (s.operandAddr + 2) (BitVec.ofNat 8 (v / 2 ^ 24))).loadByte (s.operandAddr + 1)
    (BitVec.ofNat 8 (v / 2 ^ 16))).loadByte s.operandAddr (BitVec.ofNat 8 (v / 2 ^ 8))
  { t.loadByte s.opcodeAddr (BitVec.ofNat 8 v) with halted := false, host := [] }

end State

end Sys2Proof.Machine
end

