-- ==== Sys2Proof/Machine/Operands.lean ====
section
/-! DEFINITION. The 26 addressing-mode resolvers (spec/40_step_and_addressing.md R121 to R148), operand values, and the frame every instruction runs in (R120). -/

namespace Sys2Proof.Machine

namespace State

/-- The stack address of `d,S` (R146). -/
def stackOffset (d : Byte) (s : State) : Word := if s.e then wordOf (hi s.sp) (lo s.sp + d) else s.sp + zext d

/-- The direct-page address of `d` (R136). -/
def directAddr (d : Byte) (s : State) : Addr := addrOf 0x00 (s.dp + zext d)

/-- The bank the pointer of `(a)` is read from (R131). -/
def absiBank (s : State) : Byte := match Config.absiPtrBank with | .pbr => s.pbr | .bank0 => 0x00

/-- `ea`, the resolver's result (R122 to R147), with PC at the first operand byte. -/
def resolve (o : Operand) (s : State) : Addr :=
  match o with
  | .impl | .acc => 0
  | .immb _ | .immw _ | .immm _ | .immx _ => addrOf s.pbr s.pc
  | .abs w => addrOf s.dbr w
  | .absx w => addrOf s.dbr (w + s.xv)
  | .absy w => addrOf s.dbr (w + s.yv)
  | .absi w => addrOf 0x00 (s.read16 (addrOf s.absiBank w))
  | .abxi w => addrOf s.pbr (s.read16 (addrOf s.pbr (w + s.xv)))
  | .alng l => l
  | .alnx l => l + s.xv.setWidth 24
  | .abil w => s.read24 (addrOf 0x00 w)
  | .dpag d => s.directAddr d
  | .dpgx d => s.directAddr (d + lo s.xv)
  | .dpgy d => s.directAddr (d + lo s.yv)
  | .dpgi d => addrOf s.dbr (s.read16 (s.directAddr d))
  | .dpix d => addrOf s.dbr (s.read16 (addrOf 0x00 (s.dp + zext d + s.xv)))
  | .dpiy d => addrOf s.dbr (s.read16 (s.directAddr d) + s.yv)
  | .dpil d => s.read24 (s.directAddr d)
  | .dily d => s.read24 (s.directAddr d) + s.yv.setWidth 24
  | .rela d => addrOf s.pbr (s.pc + 1 + sext d)
  | .lrel w => addrOf s.pbr (s.pc + 2 + w)
  | .srel d => addrOf 0x00 (s.stackOffset d)
  | .sriy d => addrOf s.dbr (s.read16 (addrOf 0x00 (s.stackOffset d)) + s.yv)

/-- `ea` of an instruction with that operand whose opcode is at `PBR:PC`. -/
def ea (o : Operand) (s : State) : Addr := { s with pc := s.pc + 1 }.resolve o

/-- The opcode fetched and the operand consumed (R120 steps 2 and 4, R121): PC at the next instruction, the mode cost and
`HCOST` added to CYC. Nothing else changes before the instruction's own effect. -/
def advance (op : Op) (o : Operand) (s : State) : State :=
  { s with
    pc := s.pc + 1 + BitVec.ofNat 16 (o.size s.m8 s.x8)
    cyc := s.cyc + s.instrCost op o.mode }

/-- The value of an instruction's operand at the width in force: the immediate it carries, or memory at `ea`
(`MemRead(ea, n)`). An immediate is the bytes that stood at `ea` when it was decoded (notes/assumptions/8.md). -/
def operandValue (narrow : Bool) (o : Operand) (ea : Addr) (s : State) : Word :=
  match o with
  | .immm v | .immx v => clip narrow v
  | .immw w => clip narrow w
  | .immb b => zext b
  | .impl | .acc | .abs _ | .absx _ | .absy _ | .absi _ | .abxi _ | .alng _ | .alnx _ | .abil _ | .dpag _ | .dpgx _ | .dpgy _
  | .dpgi _ | .dpix _ | .dpiy _ | .dpil _ | .dily _ | .rela _ | .lrel _ | .srel _ | .sriy _ => s.readSized narrow ea

end State

/-- An instruction's handler: its effect, given its operand, `ea`, and the state with PC at the next instruction (spec/00_scope.md R12). -/
abbrev Handler := Operand → Addr → State → State

/-- An instruction from its opcode fetch to its end (R120), with PC at its opcode. No handler faults (spec/60_exceptions.md R331). -/
def run (op : Op) (o : Operand) (h : Handler) (s : State) : Outcome := .next (h o (s.ea o) (s.advance op o))

end Sys2Proof.Machine
end

