-- ==== Sys2Proof/Machine/Alu.lean ====
section
/-! DEFINITION. Arithmetic, logic, compare and bit test (spec/42_alu.md): ADC SBC AND ORA EOR CMP CPX CPY BIT TSB TRB. Each row of the opcode table has a meaning of its own over the handler of its mnemonic. -/

namespace Sys2Proof.Machine

/-- The accumulator plus `data` and the carry, with the flags of the adder (R170). -/
def addToA (data : Word) (s : State) : State :=
  let r := addCore s.m8 (s.flag .d) s.a data (s.flag .c)
  (s.writeA s.m8 r.value).setAddFlags s.m8 r

/-- ADC (R171). -/
def adc : Handler := fun o ea s => addToA (s.operandValue s.m8 o ea) s

/-- SBC (R172): the sum with the complemented operand. -/
def sbc : Handler := fun o ea s => addToA (~~~(s.operandValue s.m8 o ea)) s

/-- A bitwise operation on the accumulator (R173). -/
def logic (f : Word → Word → Word) : Handler := fun o ea s =>
  let v := f s.a (s.operandValue s.m8 o ea)
  (s.writeA s.m8 v).setNZ s.m8 v

/-- AND (R173). -/
def and : Handler := logic (· &&& ·)

/-- ORA (R174). -/
def ora : Handler := logic (· ||| ·)

/-- EOR (R175). -/
def eor : Handler := logic (· ^^^ ·)

/-- CMP (R176). -/
def cmp : Handler := fun o ea s => s.compare s.m8 s.a (s.operandValue s.m8 o ea)

/-- CPX (R177). -/
def cpx : Handler := fun o ea s => s.compare s.x8 s.x (s.operandValue s.x8 o ea)

/-- CPY (R178). -/
def cpy : Handler := fun o ea s => s.compare s.x8 s.y (s.operandValue s.x8 o ea)

/-- BIT of a memory operand (R179): Z from `A and operand`, N and V from the operand's top two bits. -/
def bitMem : Handler := fun o ea s =>
  let v := s.operandValue s.m8 o ea
  ((s.setFlag .z (isZero s.m8 (s.a &&& v))).setFlag .n (signBit s.m8 v)).setFlag .v
    (if s.m8 then v.getLsbD 6 else v.getLsbD 14)

/-- BIT in the immediate form (R179): Z only. -/
def bitImm : Handler := fun o ea s => s.setFlag .z (isZero s.m8 (s.a &&& s.operandValue s.m8 o ea))

/-- BIT (R179). -/
def bit : Handler := fun o ea s => if o.mode = .immm then bitImm o ea s else bitMem o ea s

/-- The frame of TSB and TRB (R180): Z from `A and operand`, then `f operand A` written back. -/
def testAndModify (f : Word → Word → Word) : Handler := fun o ea s =>
  let v := s.operandValue s.m8 o ea
  (s.setFlag .z (isZero s.m8 (s.a &&& v))).writeSized s.m8 ea (f v s.a)

/-- TSB (R180). -/
def tsb : Handler := testAndModify (· ||| ·)

/-- TRB (R181). -/
def trb : Handler := testAndModify (fun v a => v &&& ~~~a)

/-- ORA in mode DPIX, opcode 0x01 (R174, R140). -/
def execOraDpix (d : Byte) (s : State) : Outcome := run .ora (.dpix d) ora s

/-- ORA in mode SREL, opcode 0x03 (R174, R146). -/
def execOraSrel (d : Byte) (s : State) : Outcome := run .ora (.srel d) ora s

/-- TSB in mode DPAG, opcode 0x04 (R180, R136). -/
def execTsbDpag (d : Byte) (s : State) : Outcome := run .tsb (.dpag d) tsb s

/-- ORA in mode DPAG, opcode 0x05 (R174, R136). -/
def execOraDpag (d : Byte) (s : State) : Outcome := run .ora (.dpag d) ora s

/-- ORA in mode DPIL, opcode 0x07 (R174, R142). -/
def execOraDpil (d : Byte) (s : State) : Outcome := run .ora (.dpil d) ora s

/-- ORA in mode IMMM, opcode 0x09 (R174, R126). -/
def execOraImmm (v : Word) (s : State) : Outcome := run .ora (.immm v) ora s

/-- TSB in mode ABS, opcode 0x0C (R180, R128). -/
def execTsbAbs (w : Word) (s : State) : Outcome := run .tsb (.abs w) tsb s

/-- ORA in mode ABS, opcode 0x0D (R174, R128). -/
def execOraAbs (w : Word) (s : State) : Outcome := run .ora (.abs w) ora s

/-- ORA in mode ALNG, opcode 0x0F (R174, R133). -/
def execOraAlng (l : Addr) (s : State) : Outcome := run .ora (.alng l) ora s

/-- ORA in mode DPIY, opcode 0x11 (R174, R141). -/
def execOraDpiy (d : Byte) (s : State) : Outcome := run .ora (.dpiy d) ora s

/-- ORA in mode DPGI, opcode 0x12 (R174, R139). -/
def execOraDpgi (d : Byte) (s : State) : Outcome := run .ora (.dpgi d) ora s

/-- ORA in mode SRIY, opcode 0x13 (R174, R147). -/
def execOraSriy (d : Byte) (s : State) : Outcome := run .ora (.sriy d) ora s

/-- TRB in mode DPAG, opcode 0x14 (R181, R136). -/
def execTrbDpag (d : Byte) (s : State) : Outcome := run .trb (.dpag d) trb s

/-- ORA in mode DPGX, opcode 0x15 (R174, R137). -/
def execOraDpgx (d : Byte) (s : State) : Outcome := run .ora (.dpgx d) ora s

/-- ORA in mode DILY, opcode 0x17 (R174, R143). -/
def execOraDily (d : Byte) (s : State) : Outcome := run .ora (.dily d) ora s

/-- ORA in mode ABSY, opcode 0x19 (R174, R130). -/
def execOraAbsy (w : Word) (s : State) : Outcome := run .ora (.absy w) ora s

/-- TRB in mode ABS, opcode 0x1C (R181, R128). -/
def execTrbAbs (w : Word) (s : State) : Outcome := run .trb (.abs w) trb s

/-- ORA in mode ABSX, opcode 0x1D (R174, R129). -/
def execOraAbsx (w : Word) (s : State) : Outcome := run .ora (.absx w) ora s

/-- ORA in mode ALNX, opcode 0x1F (R174, R134). -/
def execOraAlnx (l : Addr) (s : State) : Outcome := run .ora (.alnx l) ora s

/-- AND in mode DPIX, opcode 0x21 (R173, R140). -/
def execAndDpix (d : Byte) (s : State) : Outcome := run .and (.dpix d) and s

/-- AND in mode SREL, opcode 0x23 (R173, R146). -/
def execAndSrel (d : Byte) (s : State) : Outcome := run .and (.srel d) and s

/-- BIT in mode DPAG, opcode 0x24 (R179, R136). -/
def execBitDpag (d : Byte) (s : State) : Outcome := run .bit (.dpag d) bit s

/-- AND in mode DPAG, opcode 0x25 (R173, R136). -/
def execAndDpag (d : Byte) (s : State) : Outcome := run .and (.dpag d) and s

/-- AND in mode DPIL, opcode 0x27 (R173, R142). -/
def execAndDpil (d : Byte) (s : State) : Outcome := run .and (.dpil d) and s

/-- AND in mode IMMM, opcode 0x29 (R173, R126). -/
def execAndImmm (v : Word) (s : State) : Outcome := run .and (.immm v) and s

/-- BIT in mode ABS, opcode 0x2C (R179, R128). -/
def execBitAbs (w : Word) (s : State) : Outcome := run .bit (.abs w) bit s

/-- AND in mode ABS, opcode 0x2D (R173, R128). -/
def execAndAbs (w : Word) (s : State) : Outcome := run .and (.abs w) and s

/-- AND in mode ALNG, opcode 0x2F (R173, R133). -/
def execAndAlng (l : Addr) (s : State) : Outcome := run .and (.alng l) and s

/-- AND in mode DPIY, opcode 0x31 (R173, R141). -/
def execAndDpiy (d : Byte) (s : State) : Outcome := run .and (.dpiy d) and s

/-- AND in mode DPGI, opcode 0x32 (R173, R139). -/
def execAndDpgi (d : Byte) (s : State) : Outcome := run .and (.dpgi d) and s

/-- AND in mode SRIY, opcode 0x33 (R173, R147). -/
def execAndSriy (d : Byte) (s : State) : Outcome := run .and (.sriy d) and s

/-- BIT in mode DPGX, opcode 0x34 (R179, R137). -/
def execBitDpgx (d : Byte) (s : State) : Outcome := run .bit (.dpgx d) bit s

/-- AND in mode DPGX, opcode 0x35 (R173, R137). -/
def execAndDpgx (d : Byte) (s : State) : Outcome := run .and (.dpgx d) and s

/-- AND in mode DILY, opcode 0x37 (R173, R143). -/
def execAndDily (d : Byte) (s : State) : Outcome := run .and (.dily d) and s

/-- AND in mode ABSY, opcode 0x39 (R173, R130). -/
def execAndAbsy (w : Word) (s : State) : Outcome := run .and (.absy w) and s

/-- BIT in mode ABSX, opcode 0x3C (R179, R129). -/
def execBitAbsx (w : Word) (s : State) : Outcome := run .bit (.absx w) bit s

/-- AND in mode ABSX, opcode 0x3D (R173, R129). -/
def execAndAbsx (w : Word) (s : State) : Outcome := run .and (.absx w) and s

/-- AND in mode ALNX, opcode 0x3F (R173, R134). -/
def execAndAlnx (l : Addr) (s : State) : Outcome := run .and (.alnx l) and s

/-- EOR in mode DPIX, opcode 0x41 (R175, R140). -/
def execEorDpix (d : Byte) (s : State) : Outcome := run .eor (.dpix d) eor s

/-- EOR in mode SREL, opcode 0x43 (R175, R146). -/
def execEorSrel (d : Byte) (s : State) : Outcome := run .eor (.srel d) eor s

/-- EOR in mode DPAG, opcode 0x45 (R175, R136). -/
def execEorDpag (d : Byte) (s : State) : Outcome := run .eor (.dpag d) eor s

/-- EOR in mode DPIL, opcode 0x47 (R175, R142). -/
def execEorDpil (d : Byte) (s : State) : Outcome := run .eor (.dpil d) eor s

/-- EOR in mode IMMM, opcode 0x49 (R175, R126). -/
def execEorImmm (v : Word) (s : State) : Outcome := run .eor (.immm v) eor s

/-- EOR in mode ABS, opcode 0x4D (R175, R128). -/
def execEorAbs (w : Word) (s : State) : Outcome := run .eor (.abs w) eor s

/-- EOR in mode ALNG, opcode 0x4F (R175, R133). -/
def execEorAlng (l : Addr) (s : State) : Outcome := run .eor (.alng l) eor s

/-- EOR in mode DPIY, opcode 0x51 (R175, R141). -/
def execEorDpiy (d : Byte) (s : State) : Outcome := run .eor (.dpiy d) eor s

/-- EOR in mode DPGI, opcode 0x52 (R175, R139). -/
def execEorDpgi (d : Byte) (s : State) : Outcome := run .eor (.dpgi d) eor s

/-- EOR in mode SRIY, opcode 0x53 (R175, R147). -/
def execEorSriy (d : Byte) (s : State) : Outcome := run .eor (.sriy d) eor s

/-- EOR in mode DPGX, opcode 0x55 (R175, R137). -/
def execEorDpgx (d : Byte) (s : State) : Outcome := run .eor (.dpgx d) eor s

/-- EOR in mode DILY, opcode 0x57 (R175, R143). -/
def execEorDily (d : Byte) (s : State) : Outcome := run .eor (.dily d) eor s

/-- EOR in mode ABSY, opcode 0x59 (R175, R130). -/
def execEorAbsy (w : Word) (s : State) : Outcome := run .eor (.absy w) eor s

/-- EOR in mode ABSX, opcode 0x5D (R175, R129). -/
def execEorAbsx (w : Word) (s : State) : Outcome := run .eor (.absx w) eor s

/-- EOR in mode ALNX, opcode 0x5F (R175, R134). -/
def execEorAlnx (l : Addr) (s : State) : Outcome := run .eor (.alnx l) eor s

/-- ADC in mode DPIX, opcode 0x61 (R171, R140). -/
def execAdcDpix (d : Byte) (s : State) : Outcome := run .adc (.dpix d) adc s

/-- ADC in mode SREL, opcode 0x63 (R171, R146). -/
def execAdcSrel (d : Byte) (s : State) : Outcome := run .adc (.srel d) adc s

/-- ADC in mode DPAG, opcode 0x65 (R171, R136). -/
def execAdcDpag (d : Byte) (s : State) : Outcome := run .adc (.dpag d) adc s

/-- ADC in mode DPIL, opcode 0x67 (R171, R142). -/
def execAdcDpil (d : Byte) (s : State) : Outcome := run .adc (.dpil d) adc s

/-- ADC in mode IMMM, opcode 0x69 (R171, R126). -/
def execAdcImmm (v : Word) (s : State) : Outcome := run .adc (.immm v) adc s

/-- ADC in mode ABS, opcode 0x6D (R171, R128). -/
def execAdcAbs (w : Word) (s : State) : Outcome := run .adc (.abs w) adc s

/-- ADC in mode ALNG, opcode 0x6F (R171, R133). -/
def execAdcAlng (l : Addr) (s : State) : Outcome := run .adc (.alng l) adc s

/-- ADC in mode DPIY, opcode 0x71 (R171, R141). -/
def execAdcDpiy (d : Byte) (s : State) : Outcome := run .adc (.dpiy d) adc s

/-- ADC in mode DPGI, opcode 0x72 (R171, R139). -/
def execAdcDpgi (d : Byte) (s : State) : Outcome := run .adc (.dpgi d) adc s

/-- ADC in mode SRIY, opcode 0x73 (R171, R147). -/
def execAdcSriy (d : Byte) (s : State) : Outcome := run .adc (.sriy d) adc s

/-- ADC in mode DPGX, opcode 0x75 (R171, R137). -/
def execAdcDpgx (d : Byte) (s : State) : Outcome := run .adc (.dpgx d) adc s

/-- ADC in mode DILY, opcode 0x77 (R171, R143). -/
def execAdcDily (d : Byte) (s : State) : Outcome := run .adc (.dily d) adc s

/-- ADC in mode ABSY, opcode 0x79 (R171, R130). -/
def execAdcAbsy (w : Word) (s : State) : Outcome := run .adc (.absy w) adc s

/-- ADC in mode ABSX, opcode 0x7D (R171, R129). -/
def execAdcAbsx (w : Word) (s : State) : Outcome := run .adc (.absx w) adc s

/-- ADC in mode ALNX, opcode 0x7F (R171, R134). -/
def execAdcAlnx (l : Addr) (s : State) : Outcome := run .adc (.alnx l) adc s

/-- BIT in mode IMMM, opcode 0x89 (R179, R126). -/
def execBitImmm (v : Word) (s : State) : Outcome := run .bit (.immm v) bit s

/-- CPY in mode IMMX, opcode 0xC0 (R178, R127). -/
def execCpyImmx (v : Word) (s : State) : Outcome := run .cpy (.immx v) cpy s

/-- CMP in mode DPIX, opcode 0xC1 (R176, R140). -/
def execCmpDpix (d : Byte) (s : State) : Outcome := run .cmp (.dpix d) cmp s

/-- CMP in mode SREL, opcode 0xC3 (R176, R146). -/
def execCmpSrel (d : Byte) (s : State) : Outcome := run .cmp (.srel d) cmp s

/-- CPY in mode DPAG, opcode 0xC4 (R178, R136). -/
def execCpyDpag (d : Byte) (s : State) : Outcome := run .cpy (.dpag d) cpy s

/-- CMP in mode DPAG, opcode 0xC5 (R176, R136). -/
def execCmpDpag (d : Byte) (s : State) : Outcome := run .cmp (.dpag d) cmp s

/-- CMP in mode DPIL, opcode 0xC7 (R176, R142). -/
def execCmpDpil (d : Byte) (s : State) : Outcome := run .cmp (.dpil d) cmp s

/-- CMP in mode IMMM, opcode 0xC9 (R176, R126). -/
def execCmpImmm (v : Word) (s : State) : Outcome := run .cmp (.immm v) cmp s

/-- CPY in mode ABS, opcode 0xCC (R178, R128). -/
def execCpyAbs (w : Word) (s : State) : Outcome := run .cpy (.abs w) cpy s

/-- CMP in mode ABS, opcode 0xCD (R176, R128). -/
def execCmpAbs (w : Word) (s : State) : Outcome := run .cmp (.abs w) cmp s

/-- CMP in mode ALNG, opcode 0xCF (R176, R133). -/
def execCmpAlng (l : Addr) (s : State) : Outcome := run .cmp (.alng l) cmp s

/-- CMP in mode DPIY, opcode 0xD1 (R176, R141). -/
def execCmpDpiy (d : Byte) (s : State) : Outcome := run .cmp (.dpiy d) cmp s

/-- CMP in mode DPGI, opcode 0xD2 (R176, R139). -/
def execCmpDpgi (d : Byte) (s : State) : Outcome := run .cmp (.dpgi d) cmp s

/-- CMP in mode SRIY, opcode 0xD3 (R176, R147). -/
def execCmpSriy (d : Byte) (s : State) : Outcome := run .cmp (.sriy d) cmp s

/-- CMP in mode DPGX, opcode 0xD5 (R176, R137). -/
def execCmpDpgx (d : Byte) (s : State) : Outcome := run .cmp (.dpgx d) cmp s

/-- CMP in mode DILY, opcode 0xD7 (R176, R143). -/
def execCmpDily (d : Byte) (s : State) : Outcome := run .cmp (.dily d) cmp s

/-- CMP in mode ABSY, opcode 0xD9 (R176, R130). -/
def execCmpAbsy (w : Word) (s : State) : Outcome := run .cmp (.absy w) cmp s

/-- CMP in mode ABSX, opcode 0xDD (R176, R129). -/
def execCmpAbsx (w : Word) (s : State) : Outcome := run .cmp (.absx w) cmp s

/-- CMP in mode ALNX, opcode 0xDF (R176, R134). -/
def execCmpAlnx (l : Addr) (s : State) : Outcome := run .cmp (.alnx l) cmp s

/-- CPX in mode IMMX, opcode 0xE0 (R177, R127). -/
def execCpxImmx (v : Word) (s : State) : Outcome := run .cpx (.immx v) cpx s

/-- SBC in mode DPIX, opcode 0xE1 (R172, R140). -/
def execSbcDpix (d : Byte) (s : State) : Outcome := run .sbc (.dpix d) sbc s

/-- SBC in mode SREL, opcode 0xE3 (R172, R146). -/
def execSbcSrel (d : Byte) (s : State) : Outcome := run .sbc (.srel d) sbc s

/-- CPX in mode DPAG, opcode 0xE4 (R177, R136). -/
def execCpxDpag (d : Byte) (s : State) : Outcome := run .cpx (.dpag d) cpx s

/-- SBC in mode DPAG, opcode 0xE5 (R172, R136). -/
def execSbcDpag (d : Byte) (s : State) : Outcome := run .sbc (.dpag d) sbc s

/-- SBC in mode DPIL, opcode 0xE7 (R172, R142). -/
def execSbcDpil (d : Byte) (s : State) : Outcome := run .sbc (.dpil d) sbc s

/-- SBC in mode IMMM, opcode 0xE9 (R172, R126). -/
def execSbcImmm (v : Word) (s : State) : Outcome := run .sbc (.immm v) sbc s

/-- CPX in mode ABS, opcode 0xEC (R177, R128). -/
def execCpxAbs (w : Word) (s : State) : Outcome := run .cpx (.abs w) cpx s

/-- SBC in mode ABS, opcode 0xED (R172, R128). -/
def execSbcAbs (w : Word) (s : State) : Outcome := run .sbc (.abs w) sbc s

/-- SBC in mode ALNG, opcode 0xEF (R172, R133). -/
def execSbcAlng (l : Addr) (s : State) : Outcome := run .sbc (.alng l) sbc s

/-- SBC in mode DPIY, opcode 0xF1 (R172, R141). -/
def execSbcDpiy (d : Byte) (s : State) : Outcome := run .sbc (.dpiy d) sbc s

/-- SBC in mode DPGI, opcode 0xF2 (R172, R139). -/
def execSbcDpgi (d : Byte) (s : State) : Outcome := run .sbc (.dpgi d) sbc s

/-- SBC in mode SRIY, opcode 0xF3 (R172, R147). -/
def execSbcSriy (d : Byte) (s : State) : Outcome := run .sbc (.sriy d) sbc s

/-- SBC in mode DPGX, opcode 0xF5 (R172, R137). -/
def execSbcDpgx (d : Byte) (s : State) : Outcome := run .sbc (.dpgx d) sbc s

/-- SBC in mode DILY, opcode 0xF7 (R172, R143). -/
def execSbcDily (d : Byte) (s : State) : Outcome := run .sbc (.dily d) sbc s

/-- SBC in mode ABSY, opcode 0xF9 (R172, R130). -/
def execSbcAbsy (w : Word) (s : State) : Outcome := run .sbc (.absy w) sbc s

/-- SBC in mode ABSX, opcode 0xFD (R172, R129). -/
def execSbcAbsx (w : Word) (s : State) : Outcome := run .sbc (.absx w) sbc s

/-- SBC in mode ALNX, opcode 0xFF (R172, R134). -/
def execSbcAlnx (l : Addr) (s : State) : Outcome := run .sbc (.alnx l) sbc s

end Sys2Proof.Machine
end

