-- ==== Sys2Proof/Machine/BlockMove.lean ====
section
/-! DEFINITION. Block move (spec/47_block_move.md): MVN MVP, one byte a step. Each row of the opcode table has a meaning of its own over the handler of its mnemonic. -/

namespace Sys2Proof.Machine

/-- An index register after one byte moved, at its width (R280). -/
def stepIndex (narrow : Bool) (v delta : Word) : Word := clip narrow (v + delta)

/-- `BlockMoveStep(delta)` (R280). The operand is the source bank above the destination bank (spec/30_encoding.md R100). -/
def blockMove (delta : Word) : Handler := fun o ea s =>
  let dst := lo (s.operandValue false o ea)
  let src := hi (s.operandValue false o ea)
  { s with
    dbr := dst
    mem := s.cfg.writeByte s.mem (addrOf dst s.yv) (s.readByte (addrOf src s.xv))
    x := stepIndex s.x8 s.x delta
    y := stepIndex s.x8 s.y delta
    a := s.a - 1
    pc := if s.a - 1 = 0xFFFF then s.pc else s.pc - 3 }

/-- MVN (R281). -/
def mvn : Handler := blockMove 1

/-- MVP (R282). -/
def mvp : Handler := blockMove (-1)

/-- MVP in mode IMMW, opcode 0x44 (R282, R125). -/
def execMvp (dst : Byte) (src : Byte) (s : State) : Outcome := run .mvp (.immw (wordOf src dst)) mvp s

/-- MVN in mode IMMW, opcode 0x54 (R281, R125). -/
def execMvn (dst : Byte) (src : Byte) (s : State) : Outcome := run .mvn (.immw (wordOf src dst)) mvn s

end Sys2Proof.Machine
end

