-- ==== Sys2Proof/Machine/Branch.lean ====
section
/-! DEFINITION. Branches (spec/44_branches.md): BCC BCS BEQ BNE BMI BPL BVC BVS BRA BRL. Each row of the opcode table has a meaning of its own over the handler of its mnemonic. -/

namespace Sys2Proof.Machine

/-- The cycles a taken branch adds (R210, spec/70_reset_and_hazards.md R372): 1, and 1 more in emulation mode when the
target's high byte differs from that of the next instruction's offset. -/
def takenCycles (ea : Addr) (s : State) : Nat := 1 + if s.e && hi (offsetOf ea) != hi s.pc then 1 else 0

/-- `Branch(cond)` (R210). -/
def branch (cond : State → Bool) : Handler := fun _ ea s =>
  { s with
    pc := if cond s then offsetOf ea else s.pc
    cyc := if cond s then s.cyc + takenCycles ea s else s.cyc }

/-- BCC (R211). -/
def bcc : Handler := branch fun s => !s.flag .c

/-- BCS (R212). -/
def bcs : Handler := branch fun s => s.flag .c

/-- BEQ (R213). -/
def beq : Handler := branch fun s => s.flag .z

/-- BNE (R214). -/
def bne : Handler := branch fun s => !s.flag .z

/-- BMI (R215). -/
def bmi : Handler := branch fun s => s.flag .n

/-- BPL (R216). -/
def bpl : Handler := branch fun s => !s.flag .n

/-- BVC (R217). -/
def bvc : Handler := branch fun s => !s.flag .v

/-- BVS (R218). -/
def bvs : Handler := branch fun s => s.flag .v

/-- BRA (R219): always taken. -/
def bra : Handler := branch fun _ => true

/-- BRL (R220): no branch addition to the cycle count. -/
def brl : Handler := fun _ ea s => { s with pc := offsetOf ea }

/-- BPL in mode RELA, opcode 0x10 (R216, R144). -/
def execBpl (d : Byte) (s : State) : Outcome := run .bpl (.rela d) bpl s

/-- BMI in mode RELA, opcode 0x30 (R215, R144). -/
def execBmi (d : Byte) (s : State) : Outcome := run .bmi (.rela d) bmi s

/-- BVC in mode RELA, opcode 0x50 (R217, R144). -/
def execBvc (d : Byte) (s : State) : Outcome := run .bvc (.rela d) bvc s

/-- BVS in mode RELA, opcode 0x70 (R218, R144). -/
def execBvs (d : Byte) (s : State) : Outcome := run .bvs (.rela d) bvs s

/-- BRA in mode RELA, opcode 0x80 (R219, R144). -/
def execBra (d : Byte) (s : State) : Outcome := run .bra (.rela d) bra s

/-- BRL in mode LREL, opcode 0x82 (R220, R145). -/
def execBrl (w : Word) (s : State) : Outcome := run .brl (.lrel w) brl s

/-- BCC in mode RELA, opcode 0x90 (R211, R144). -/
def execBcc (d : Byte) (s : State) : Outcome := run .bcc (.rela d) bcc s

/-- BCS in mode RELA, opcode 0xB0 (R212, R144). -/
def execBcs (d : Byte) (s : State) : Outcome := run .bcs (.rela d) bcs s

/-- BNE in mode RELA, opcode 0xD0 (R214, R144). -/
def execBne (d : Byte) (s : State) : Outcome := run .bne (.rela d) bne s

/-- BEQ in mode RELA, opcode 0xF0 (R213, R144). -/
def execBeq (d : Byte) (s : State) : Outcome := run .beq (.rela d) beq s

end Sys2Proof.Machine
end

