-- ==== Sys2Proof/Machine/Control.lean ====
section
/-! DEFINITION. Jumps, calls, returns, software interrupts and the special instructions (spec/49_control_special.md): JMP JSR JSL RTS RTL BRK COP RTI WAI STP WDM. Each row of the opcode table has a meaning of its own over the handler of its mnemonic. -/

namespace Sys2Proof.Machine

/-- JMP (R305): only the two long forms load PBR. -/
def jmp : Handler := fun o ea s =>
  { s with pc := offsetOf ea, pbr := if o.mode = .alng ∨ o.mode = .abil then bankOf ea else s.pbr }

/-- JSR (R306). -/
def jsr : Handler := fun _ ea s => { s.push16 (s.pc - 1) with pc := offsetOf ea }

/-- JSL (R307): the bank is pushed first. -/
def jsl : Handler := fun _ ea s => { (s.push8 s.pbr).push16 (s.pc - 1) with pc := offsetOf ea, pbr := bankOf ea }

/-- RTS (R308). -/
def rts : Handler := fun _ _ s => { s.pull16.2 with pc := s.pull16.1 + 1 }

/-- RTL (R309). -/
def rtl : Handler := fun _ _ s =>
  let t := s.pull16.2
  { t.pull8.2 with pc := s.pull16.1 + 1, pbr := t.pull8.1 }

/-- BRK (R310). -/
def brk : Handler := fun _ _ s => s.takeInterrupt .brk

/-- COP (R311). -/
def cop : Handler := fun _ _ s => s.takeInterrupt .cop

/-- RTI (R312). -/
def rti : Handler := fun _ _ s => s.returnFromInterrupt

/-- The poll of WAI and STP (R313, R314): PC goes back to the opcode while INTSIG is 0. -/
def awaitSignal : Handler := fun _ _ s => { s with pc := if s.intsig then s.pc else s.pc - 1 }

/-- WAI (R313). -/
def wai : Handler := awaitSignal

/-- STP (R314). -/
def stp : Handler := awaitSignal

/-- WDM (R317): a stop code sets HALTED; any other byte does nothing. -/
def wdm : Handler := fun o ea s =>
  { s with halted := s.halted || s.cfg.wdmStop.contains (lo (s.operandValue true o ea)) }

/-- BRK in mode IMMB, opcode 0x00 (R310, R124). -/
def execBrk (sig : Byte) (s : State) : Outcome := run .brk (.immb sig) brk s

/-- COP in mode IMMB, opcode 0x02 (R311, R124). -/
def execCop (sig : Byte) (s : State) : Outcome := run .cop (.immb sig) cop s

/-- JSR in mode ABS, opcode 0x20 (R306, R128). -/
def execJsrAbs (w : Word) (s : State) : Outcome := run .jsr (.abs w) jsr s

/-- JSL in mode ALNG, opcode 0x22 (R307, R133). -/
def execJsl (l : Addr) (s : State) : Outcome := run .jsl (.alng l) jsl s

/-- RTI in mode IMPL, opcode 0x40 (R312, R122). -/
def execRti (s : State) : Outcome := run .rti .impl rti s

/-- WDM in mode IMMB, opcode 0x42 (R317, R124). -/
def execWdm (b : Byte) (s : State) : Outcome := run .wdm (.immb b) wdm s

/-- JMP in mode ABS, opcode 0x4C (R305, R128). -/
def execJmpAbs (w : Word) (s : State) : Outcome := run .jmp (.abs w) jmp s

/-- JMP in mode ALNG, opcode 0x5C (R305, R133). -/
def execJmpAlng (l : Addr) (s : State) : Outcome := run .jmp (.alng l) jmp s

/-- RTS in mode IMPL, opcode 0x60 (R308, R122). -/
def execRts (s : State) : Outcome := run .rts .impl rts s

/-- RTL in mode IMPL, opcode 0x6B (R309, R122). -/
def execRtl (s : State) : Outcome := run .rtl .impl rtl s

/-- JMP in mode ABSI, opcode 0x6C (R305, R131). -/
def execJmpAbsi (w : Word) (s : State) : Outcome := run .jmp (.absi w) jmp s

/-- JMP in mode ABXI, opcode 0x7C (R305, R132). -/
def execJmpAbxi (w : Word) (s : State) : Outcome := run .jmp (.abxi w) jmp s

/-- WAI in mode IMPL, opcode 0xCB (R313, R122). -/
def execWai (s : State) : Outcome := run .wai .impl wai s

/-- STP in mode IMPL, opcode 0xDB (R314, R122). -/
def execStp (s : State) : Outcome := run .stp .impl stp s

/-- JMP in mode ABIL, opcode 0xDC (R305, R135). -/
def execJmpAbil (w : Word) (s : State) : Outcome := run .jmp (.abil w) jmp s

/-- JSR in mode ABXI, opcode 0xFC (R306, R132). -/
def execJsrAbxi (w : Word) (s : State) : Outcome := run .jsr (.abxi w) jsr s

end Sys2Proof.Machine
end

