-- ==== Sys2Proof/Machine/LoadStore.lean ====
section
/-! DEFINITION. Load and store (spec/41_load_store.md): LDA LDX LDY STA STX STY STZ. Each row of the opcode table has a meaning of its own over the handler of its mnemonic. -/

namespace Sys2Proof.Machine

/-- LDA (R160). -/
def lda : Handler := fun o ea s =>
  let v := s.operandValue s.m8 o ea
  (s.writeA s.m8 v).setNZ s.m8 v

/-- LDX (R161). -/
def ldx : Handler := fun o ea s =>
  let v := s.operandValue s.x8 o ea
  (s.writeX s.x8 v).setNZ s.x8 v

/-- LDY (R162). -/
def ldy : Handler := fun o ea s =>
  let v := s.operandValue s.x8 o ea
  (s.writeY s.x8 v).setNZ s.x8 v

/-- STA (R163). -/
def sta : Handler := fun _ ea s => s.writeSized s.m8 ea s.a

/-- STX (R164). -/
def stx : Handler := fun _ ea s => s.writeSized s.x8 ea s.x

/-- STY (R165). -/
def sty : Handler := fun _ ea s => s.writeSized s.x8 ea s.y

/-- STZ (R166): sized by the M-flag. -/
def stz : Handler := fun _ ea s => s.writeSized s.m8 ea 0x0000

/-- STZ in mode DPAG, opcode 0x64 (R166, R136). -/
def execStzDpag (d : Byte) (s : State) : Outcome := run .stz (.dpag d) stz s

/-- STZ in mode DPGX, opcode 0x74 (R166, R137). -/
def execStzDpgx (d : Byte) (s : State) : Outcome := run .stz (.dpgx d) stz s

/-- STA in mode DPIX, opcode 0x81 (R163, R140). -/
def execStaDpix (d : Byte) (s : State) : Outcome := run .sta (.dpix d) sta s

/-- STA in mode SREL, opcode 0x83 (R163, R146). -/
def execStaSrel (d : Byte) (s : State) : Outcome := run .sta (.srel d) sta s

/-- STY in mode DPAG, opcode 0x84 (R165, R136). -/
def execStyDpag (d : Byte) (s : State) : Outcome := run .sty (.dpag d) sty s

/-- STA in mode DPAG, opcode 0x85 (R163, R136). -/
def execStaDpag (d : Byte) (s : State) : Outcome := run .sta (.dpag d) sta s

/-- STX in mode DPAG, opcode 0x86 (R164, R136). -/
def execStxDpag (d : Byte) (s : State) : Outcome := run .stx (.dpag d) stx s

/-- STA in mode DPIL, opcode 0x87 (R163, R142). -/
def execStaDpil (d : Byte) (s : State) : Outcome := run .sta (.dpil d) sta s

/-- STY in mode ABS, opcode 0x8C (R165, R128). -/
def execStyAbs (w : Word) (s : State) : Outcome := run .sty (.abs w) sty s

/-- STA in mode ABS, opcode 0x8D (R163, R128). -/
def execStaAbs (w : Word) (s : State) : Outcome := run .sta (.abs w) sta s

/-- STX in mode ABS, opcode 0x8E (R164, R128). -/
def execStxAbs (w : Word) (s : State) : Outcome := run .stx (.abs w) stx s

/-- STA in mode ALNG, opcode 0x8F (R163, R133). -/
def execStaAlng (l : Addr) (s : State) : Outcome := run .sta (.alng l) sta s

/-- STA in mode DPIY, opcode 0x91 (R163, R141). -/
def execStaDpiy (d : Byte) (s : State) : Outcome := run .sta (.dpiy d) sta s

/-- STA in mode DPGI, opcode 0x92 (R163, R139). -/
def execStaDpgi (d : Byte) (s : State) : Outcome := run .sta (.dpgi d) sta s

/-- STA in mode SRIY, opcode 0x93 (R163, R147). -/
def execStaSriy (d : Byte) (s : State) : Outcome := run .sta (.sriy d) sta s

/-- STY in mode DPGX, opcode 0x94 (R165, R137). -/
def execStyDpgx (d : Byte) (s : State) : Outcome := run .sty (.dpgx d) sty s

/-- STA in mode DPGX, opcode 0x95 (R163, R137). -/
def execStaDpgx (d : Byte) (s : State) : Outcome := run .sta (.dpgx d) sta s

/-- STX in mode DPGY, opcode 0x96 (R164, R138). -/
def execStxDpgy (d : Byte) (s : State) : Outcome := run .stx (.dpgy d) stx s

/-- STA in mode DILY, opcode 0x97 (R163, R143). -/
def execStaDily (d : Byte) (s : State) : Outcome := run .sta (.dily d) sta s

/-- STA in mode ABSY, opcode 0x99 (R163, R130). -/
def execStaAbsy (w : Word) (s : State) : Outcome := run .sta (.absy w) sta s

/-- STZ in mode ABS, opcode 0x9C (R166, R128). -/
def execStzAbs (w : Word) (s : State) : Outcome := run .stz (.abs w) stz s

/-- STA in mode ABSX, opcode 0x9D (R163, R129). -/
def execStaAbsx (w : Word) (s : State) : Outcome := run .sta (.absx w) sta s

/-- STZ in mode ABSX, opcode 0x9E (R166, R129). -/
def execStzAbsx (w : Word) (s : State) : Outcome := run .stz (.absx w) stz s

/-- STA in mode ALNX, opcode 0x9F (R163, R134). -/
def execStaAlnx (l : Addr) (s : State) : Outcome := run .sta (.alnx l) sta s

/-- LDY in mode IMMX, opcode 0xA0 (R162, R127). -/
def execLdyImmx (v : Word) (s : State) : Outcome := run .ldy (.immx v) ldy s

/-- LDA in mode DPIX, opcode 0xA1 (R160, R140). -/
def execLdaDpix (d : Byte) (s : State) : Outcome := run .lda (.dpix d) lda s

/-- LDX in mode IMMX, opcode 0xA2 (R161, R127). -/
def execLdxImmx (v : Word) (s : State) : Outcome := run .ldx (.immx v) ldx s

/-- LDA in mode SREL, opcode 0xA3 (R160, R146). -/
def execLdaSrel (d : Byte) (s : State) : Outcome := run .lda (.srel d) lda s

/-- LDY in mode DPAG, opcode 0xA4 (R162, R136). -/
def execLdyDpag (d : Byte) (s : State) : Outcome := run .ldy (.dpag d) ldy s

/-- LDA in mode DPAG, opcode 0xA5 (R160, R136). -/
def execLdaDpag (d : Byte) (s : State) : Outcome := run .lda (.dpag d) lda s

/-- LDX in mode DPAG, opcode 0xA6 (R161, R136). -/
def execLdxDpag (d : Byte) (s : State) : Outcome := run .ldx (.dpag d) ldx s

/-- LDA in mode DPIL, opcode 0xA7 (R160, R142). -/
def execLdaDpil (d : Byte) (s : State) : Outcome := run .lda (.dpil d) lda s

/-- LDA in mode IMMM, opcode 0xA9 (R160, R126). -/
def execLdaImmm (v : Word) (s : State) : Outcome := run .lda (.immm v) lda s

/-- LDY in mode ABS, opcode 0xAC (R162, R128). -/
def execLdyAbs (w : Word) (s : State) : Outcome := run .ldy (.abs w) ldy s

/-- LDA in mode ABS, opcode 0xAD (R160, R128). -/
def execLdaAbs (w : Word) (s : State) : Outcome := run .lda (.abs w) lda s

/-- LDX in mode ABS, opcode 0xAE (R161, R128). -/
def execLdxAbs (w : Word) (s : State) : Outcome := run .ldx (.abs w) ldx s

/-- LDA in mode ALNG, opcode 0xAF (R160, R133). -/
def execLdaAlng (l : Addr) (s : State) : Outcome := run .lda (.alng l) lda s

/-- LDA in mode DPIY, opcode 0xB1 (R160, R141). -/
def execLdaDpiy (d : Byte) (s : State) : Outcome := run .lda (.dpiy d) lda s

/-- LDA in mode DPGI, opcode 0xB2 (R160, R139). -/
def execLdaDpgi (d : Byte) (s : State) : Outcome := run .lda (.dpgi d) lda s

/-- LDA in mode SRIY, opcode 0xB3 (R160, R147). -/
def execLdaSriy (d : Byte) (s : State) : Outcome := run .lda (.sriy d) lda s

/-- LDY in mode DPGX, opcode 0xB4 (R162, R137). -/
def execLdyDpgx (d : Byte) (s : State) : Outcome := run .ldy (.dpgx d) ldy s

/-- LDA in mode DPGX, opcode 0xB5 (R160, R137). -/
def execLdaDpgx (d : Byte) (s : State) : Outcome := run .lda (.dpgx d) lda s

/-- LDX in mode DPGY, opcode 0xB6 (R161, R138). -/
def execLdxDpgy (d : Byte) (s : State) : Outcome := run .ldx (.dpgy d) ldx s

/-- LDA in mode DILY, opcode 0xB7 (R160, R143). -/
def execLdaDily (d : Byte) (s : State) : Outcome := run .lda (.dily d) lda s

/-- LDA in mode ABSY, opcode 0xB9 (R160, R130). -/
def execLdaAbsy (w : Word) (s : State) : Outcome := run .lda (.absy w) lda s

/-- LDY in mode ABSX, opcode 0xBC (R162, R129). -/
def execLdyAbsx (w : Word) (s : State) : Outcome := run .ldy (.absx w) ldy s

/-- LDA in mode ABSX, opcode 0xBD (R160, R129). -/
def execLdaAbsx (w : Word) (s : State) : Outcome := run .lda (.absx w) lda s

/-- LDX in mode ABSY, opcode 0xBE (R161, R130). -/
def execLdxAbsy (w : Word) (s : State) : Outcome := run .ldx (.absy w) ldx s

/-- LDA in mode ALNX, opcode 0xBF (R160, R134). -/
def execLdaAlnx (l : Addr) (s : State) : Outcome := run .lda (.alnx l) lda s

end Sys2Proof.Machine
end

