-- ==== Sys2Proof/Machine/ModeFlags.lean ====
section
/-! DEFINITION. Mode control and flag instructions (spec/48_mode_control_flags.md): REP SEP XCE CLC SEC CLI SEI CLD SED CLV NOP. Each row of the opcode table has a meaning of its own over the handler of its mnemonic. -/

namespace Sys2Proof.Machine

/-- REP (R285). -/
def rep : Handler := fun o ea s => s.setP (s.p &&& ~~~(lo (s.operandValue true o ea)))

/-- SEP (R286). -/
def sep : Handler := fun o ea s => s.setP (s.p ||| lo (s.operandValue true o ea))

/-- XCE (R287): C and E exchanged; the block for the new `E = 1` runs also when E was already 1. -/
def xce : Handler := fun _ _ s =>
  let t := { s.setFlag .c s.e with e := s.flag .c }
  { t with
    p := if t.e then t.p ||| 0x30#8 else t.p
    x := clip t.e t.x
    y := clip t.e t.y
    sp := if t.e then wordOf 0x01 (lo t.sp) else t.sp }

/-- CLC (R288). -/
def clc : Handler := fun _ _ s => s.setFlag .c false

/-- SEC (R289). -/
def sec : Handler := fun _ _ s => s.setFlag .c true

/-- CLI (R290). -/
def cli : Handler := fun _ _ s => s.setFlag .i false

/-- SEI (R291). -/
def sei : Handler := fun _ _ s => s.setFlag .i true

/-- CLD (R292). -/
def cld : Handler := fun _ _ s => s.setFlag .d false

/-- SED (R293). -/
def sed : Handler := fun _ _ s => s.setFlag .d true

/-- CLV (R294). -/
def clv : Handler := fun _ _ s => s.setFlag .v false

/-- NOP (R295). -/
def nop : Handler := fun _ _ s => s

/-- CLC in mode IMPL, opcode 0x18 (R288, R122). -/
def execClc (s : State) : Outcome := run .clc .impl clc s

/-- SEC in mode IMPL, opcode 0x38 (R289, R122). -/
def execSec (s : State) : Outcome := run .sec .impl sec s

/-- CLI in mode IMPL, opcode 0x58 (R290, R122). -/
def execCli (s : State) : Outcome := run .cli .impl cli s

/-- SEI in mode IMPL, opcode 0x78 (R291, R122). -/
def execSei (s : State) : Outcome := run .sei .impl sei s

/-- CLV in mode IMPL, opcode 0xB8 (R294, R122). -/
def execClv (s : State) : Outcome := run .clv .impl clv s

/-- REP in mode IMMB, opcode 0xC2 (R285, R124). -/
def execRep (b : Byte) (s : State) : Outcome := run .rep (.immb b) rep s

/-- CLD in mode IMPL, opcode 0xD8 (R292, R122). -/
def execCld (s : State) : Outcome := run .cld .impl cld s

/-- SEP in mode IMMB, opcode 0xE2 (R286, R124). -/
def execSep (b : Byte) (s : State) : Outcome := run .sep (.immb b) sep s

/-- NOP in mode IMPL, opcode 0xEA (R295, R122). -/
def execNop (s : State) : Outcome := run .nop .impl nop s

/-- SED in mode IMPL, opcode 0xF8 (R293, R122). -/
def execSed (s : State) : Outcome := run .sed .impl sed s

/-- XCE in mode IMPL, opcode 0xFB (R287, R122). -/
def execXce (s : State) : Outcome := run .xce .impl xce s

end Sys2Proof.Machine
end

