-- ==== Sys2Proof/Machine/Shift.lean ====
section
/-! DEFINITION. Shift, rotate, increment and decrement (spec/43_shift_incdec.md): ASL LSR ROL ROR INC DEC INX INY DEX DEY. Each row of the opcode table has a meaning of its own over the handler of its mnemonic. -/

namespace Sys2Proof.Machine

/-- What a read-modify-write instruction makes of its operand: the carry out, if it writes C, and the result. -/
structure RmwResult where
  carry : Option Bool
  value : Word
  deriving DecidableEq, Repr

/-- C, when the instruction writes it, then N and Z of the result. -/
def State.setRmwFlags (narrow : Bool) (r : RmwResult) (s : State) : State :=
  { s with p := (State.setNZ narrow r.value
      (match r.carry with | some c => s.setFlag .c c | none => s)).p }

/-- The read-modify-write frame (R200): `f narrow carryIn operand`, on the accumulator in mode ACC and on memory otherwise. -/
def rmw (f : Bool → Bool → Word → RmwResult) : Handler := fun o ea s =>
  if o.mode = .acc then
    let r := f s.m8 (s.flag .c) (clip s.m8 s.a)
    (s.writeA s.m8 r.value).setRmwFlags s.m8 r
  else
    let r := f s.m8 (s.flag .c) (s.readSized s.m8 ea)
    (s.writeSized s.m8 ea r.value).setRmwFlags s.m8 r

/-- ASL (R190). -/
def asl : Handler := rmw fun narrow _ v => { carry := some (signBit narrow v), value := clip narrow (v <<< 1) }

/-- LSR (R191). -/
def lsr : Handler := rmw fun narrow _ v => { carry := some (v.getLsbD 0), value := clip narrow (clip narrow v >>> 1) }

/-- The carry as a word, for a rotation. -/
def carryWord (b : Bool) : Word := if b then 1 else 0

/-- ROL (R192): the old carry enters bit 0. -/
def rol : Handler := rmw fun narrow c v =>
  { carry := some (signBit narrow v), value := clip narrow (v <<< 1 ||| carryWord c) }

/-- ROR (R193): the old carry enters the top bit. -/
def ror : Handler := rmw fun narrow c v =>
  { carry := some (v.getLsbD 0)
    value := clip narrow (clip narrow v >>> 1 ||| carryWord c <<< (if narrow then 7 else 15)) }

/-- INC (R194): no carry is written. -/
def inc : Handler := rmw fun narrow _ v => { carry := none, value := clip narrow (v + 1) }

/-- DEC (R195): no carry is written. -/
def dec : Handler := rmw fun narrow _ v => { carry := none, value := clip narrow (v - 1) }

/-- X changed by a constant at its width (R196, R198). -/
def addToX (delta : Word) : Handler := fun _ _ s => (s.writeX s.x8 (s.x + delta)).setNZ s.x8 (s.x + delta)

/-- Y changed by a constant at its width (R197, R199). -/
def addToY (delta : Word) : Handler := fun _ _ s => (s.writeY s.x8 (s.y + delta)).setNZ s.x8 (s.y + delta)

/-- INX (R196). -/
def inx : Handler := addToX 1

/-- INY (R197). -/
def iny : Handler := addToY 1

/-- DEX (R198). -/
def dex : Handler := addToX (-1)

/-- DEY (R199). -/
def dey : Handler := addToY (-1)

/-- ASL in mode DPAG, opcode 0x06 (R190, R136). -/
def execAslDpag (d : Byte) (s : State) : Outcome := run .asl (.dpag d) asl s

/-- ASL in mode ACC, opcode 0x0A (R190, R123). -/
def execAslAcc (s : State) : Outcome := run .asl .acc asl s

/-- ASL in mode ABS, opcode 0x0E (R190, R128). -/
def execAslAbs (w : Word) (s : State) : Outcome := run .asl (.abs w) asl s

/-- ASL in mode DPGX, opcode 0x16 (R190, R137). -/
def execAslDpgx (d : Byte) (s : State) : Outcome := run .asl (.dpgx d) asl s

/-- INC in mode ACC, opcode 0x1A (R194, R123). -/
def execIncAcc (s : State) : Outcome := run .inc .acc inc s

/-- ASL in mode ABSX, opcode 0x1E (R190, R129). -/
def execAslAbsx (w : Word) (s : State) : Outcome := run .asl (.absx w) asl s

/-- ROL in mode DPAG, opcode 0x26 (R192, R136). -/
def execRolDpag (d : Byte) (s : State) : Outcome := run .rol (.dpag d) rol s

/-- ROL in mode ACC, opcode 0x2A (R192, R123). -/
def execRolAcc (s : State) : Outcome := run .rol .acc rol s

/-- ROL in mode ABS, opcode 0x2E (R192, R128). -/
def execRolAbs (w : Word) (s : State) : Outcome := run .rol (.abs w) rol s

/-- ROL in mode DPGX, opcode 0x36 (R192, R137). -/
def execRolDpgx (d : Byte) (s : State) : Outcome := run .rol (.dpgx d) rol s

/-- DEC in mode ACC, opcode 0x3A (R195, R123). -/
def execDecAcc (s : State) : Outcome := run .dec .acc dec s

/-- ROL in mode ABSX, opcode 0x3E (R192, R129). -/
def execRolAbsx (w : Word) (s : State) : Outcome := run .rol (.absx w) rol s

/-- LSR in mode DPAG, opcode 0x46 (R191, R136). -/
def execLsrDpag (d : Byte) (s : State) : Outcome := run .lsr (.dpag d) lsr s

/-- LSR in mode ACC, opcode 0x4A (R191, R123). -/
def execLsrAcc (s : State) : Outcome := run .lsr .acc lsr s

/-- LSR in mode ABS, opcode 0x4E (R191, R128). -/
def execLsrAbs (w : Word) (s : State) : Outcome := run .lsr (.abs w) lsr s

/-- LSR in mode DPGX, opcode 0x56 (R191, R137). -/
def execLsrDpgx (d : Byte) (s : State) : Outcome := run .lsr (.dpgx d) lsr s

/-- LSR in mode ABSX, opcode 0x5E (R191, R129). -/
def execLsrAbsx (w : Word) (s : State) : Outcome := run .lsr (.absx w) lsr s

/-- ROR in mode DPAG, opcode 0x66 (R193, R136). -/
def execRorDpag (d : Byte) (s : State) : Outcome := run .ror (.dpag d) ror s

/-- ROR in mode ACC, opcode 0x6A (R193, R123). -/
def execRorAcc (s : State) : Outcome := run .ror .acc ror s

/-- ROR in mode ABS, opcode 0x6E (R193, R128). -/
def execRorAbs (w : Word) (s : State) : Outcome := run .ror (.abs w) ror s

/-- ROR in mode DPGX, opcode 0x76 (R193, R137). -/
def execRorDpgx (d : Byte) (s : State) : Outcome := run .ror (.dpgx d) ror s

/-- ROR in mode ABSX, opcode 0x7E (R193, R129). -/
def execRorAbsx (w : Word) (s : State) : Outcome := run .ror (.absx w) ror s

/-- DEY in mode IMPL, opcode 0x88 (R199, R122). -/
def execDey (s : State) : Outcome := run .dey .impl dey s

/-- DEC in mode DPAG, opcode 0xC6 (R195, R136). -/
def execDecDpag (d : Byte) (s : State) : Outcome := run .dec (.dpag d) dec s

/-- INY in mode IMPL, opcode 0xC8 (R197, R122). -/
def execIny (s : State) : Outcome := run .iny .impl iny s

/-- DEX in mode IMPL, opcode 0xCA (R198, R122). -/
def execDex (s : State) : Outcome := run .dex .impl dex s

/-- DEC in mode ABS, opcode 0xCE (R195, R128). -/
def execDecAbs (w : Word) (s : State) : Outcome := run .dec (.abs w) dec s

/-- DEC in mode DPGX, opcode 0xD6 (R195, R137). -/
def execDecDpgx (d : Byte) (s : State) : Outcome := run .dec (.dpgx d) dec s

/-- DEC in mode ABSX, opcode 0xDE (R195, R129). -/
def execDecAbsx (w : Word) (s : State) : Outcome := run .dec (.absx w) dec s

/-- INC in mode DPAG, opcode 0xE6 (R194, R136). -/
def execIncDpag (d : Byte) (s : State) : Outcome := run .inc (.dpag d) inc s

/-- INX in mode IMPL, opcode 0xE8 (R196, R122). -/
def execInx (s : State) : Outcome := run .inx .impl inx s

/-- INC in mode ABS, opcode 0xEE (R194, R128). -/
def execIncAbs (w : Word) (s : State) : Outcome := run .inc (.abs w) inc s

/-- INC in mode DPGX, opcode 0xF6 (R194, R137). -/
def execIncDpgx (d : Byte) (s : State) : Outcome := run .inc (.dpgx d) inc s

/-- INC in mode ABSX, opcode 0xFE (R194, R129). -/
def execIncAbsx (w : Word) (s : State) : Outcome := run .inc (.absx w) inc s

end Sys2Proof.Machine
end

