-- ==== Sys2Proof/Machine/Stack.lean ====
section
/-! DEFINITION. Pushes and pulls (spec/45_stack.md): PHA PHX PHY PHP PHB PHD PHK PLA PLX PLY PLP PLB PLD PEA PEI PER. Each row of the opcode table has a meaning of its own over the handler of its mnemonic. -/

namespace Sys2Proof.Machine

/-- PHA (R229). -/
def pha : Handler := fun _ _ s => s.pushSized s.m8 s.a

/-- PHX (R230). -/
def phx : Handler := fun _ _ s => s.pushSized s.x8 s.x

/-- PHY (R231). -/
def phy : Handler := fun _ _ s => s.pushSized s.x8 s.y

/-- PHP (R232). -/
def php : Handler := fun _ _ s => s.push8 s.p

/-- PHB (R233). -/
def phb : Handler := fun _ _ s => s.push8 s.dbr

/-- PHD (R234). -/
def phd : Handler := fun _ _ s => s.push16 s.dp

/-- PHK (R235). -/
def phk : Handler := fun _ _ s => s.push8 s.pbr

/-- PLA (R236). -/
def pla : Handler := fun _ _ s =>
  let r := s.pullSized s.m8
  (r.2.writeA s.m8 r.1).setNZ s.m8 r.1

/-- PLX (R237). -/
def plx : Handler := fun _ _ s =>
  let r := s.pullSized s.x8
  (r.2.writeX s.x8 r.1).setNZ s.x8 r.1

/-- PLY (R238). -/
def ply : Handler := fun _ _ s =>
  let r := s.pullSized s.x8
  (r.2.writeY s.x8 r.1).setNZ s.x8 r.1

/-- PLP (R239). -/
def plp : Handler := fun _ _ s => s.pull8.2.setP s.pull8.1

/-- PLB (R240). -/
def plb : Handler := fun _ _ s => { s.pull8.2 with dbr := s.pull8.1 }.setNZ true (zext s.pull8.1)

/-- PLD (R241). -/
def pld : Handler := fun _ _ s => { s.pull16.2 with dp := s.pull16.1 }.setNZ false s.pull16.1

/-- PEA (R242). -/
def pea : Handler := fun o ea s => s.push16 (s.operandValue false o ea)

/-- PEI (R243). -/
def pei : Handler := fun o ea s => s.push16 (s.operandValue false o ea)

/-- PER (R244). -/
def per : Handler := fun _ ea s => s.push16 (offsetOf ea)

/-- PHP in mode IMPL, opcode 0x08 (R232, R122). -/
def execPhp (s : State) : Outcome := run .php .impl php s

/-- PHD in mode IMPL, opcode 0x0B (R234, R122). -/
def execPhd (s : State) : Outcome := run .phd .impl phd s

/-- PLP in mode IMPL, opcode 0x28 (R239, R122). -/
def execPlp (s : State) : Outcome := run .plp .impl plp s

/-- PLD in mode IMPL, opcode 0x2B (R241, R122). -/
def execPld (s : State) : Outcome := run .pld .impl pld s

/-- PHA in mode IMPL, opcode 0x48 (R229, R122). -/
def execPha (s : State) : Outcome := run .pha .impl pha s

/-- PHK in mode IMPL, opcode 0x4B (R235, R122). -/
def execPhk (s : State) : Outcome := run .phk .impl phk s

/-- PHY in mode IMPL, opcode 0x5A (R231, R122). -/
def execPhy (s : State) : Outcome := run .phy .impl phy s

/-- PER in mode LREL, opcode 0x62 (R244, R145). -/
def execPer (w : Word) (s : State) : Outcome := run .per (.lrel w) per s

/-- PLA in mode IMPL, opcode 0x68 (R236, R122). -/
def execPla (s : State) : Outcome := run .pla .impl pla s

/-- PLY in mode IMPL, opcode 0x7A (R238, R122). -/
def execPly (s : State) : Outcome := run .ply .impl ply s

/-- PHB in mode IMPL, opcode 0x8B (R233, R122). -/
def execPhb (s : State) : Outcome := run .phb .impl phb s

/-- PLB in mode IMPL, opcode 0xAB (R240, R122). -/
def execPlb (s : State) : Outcome := run .plb .impl plb s

/-- PEI in mode DPAG, opcode 0xD4 (R243, R136). -/
def execPei (d : Byte) (s : State) : Outcome := run .pei (.dpag d) pei s

/-- PHX in mode IMPL, opcode 0xDA (R230, R122). -/
def execPhx (s : State) : Outcome := run .phx .impl phx s

/-- PEA in mode IMMW, opcode 0xF4 (R242, R125). -/
def execPea (w : Word) (s : State) : Outcome := run .pea (.immw w) pea s

/-- PLX in mode IMPL, opcode 0xFA (R237, R122). -/
def execPlx (s : State) : Outcome := run .plx .impl plx s

end Sys2Proof.Machine
end

