-- ==== Sys2Proof/Machine/Transfer.lean ====
section
/-! DEFINITION. Register transfers (spec/46_transfers.md): TAX TAY TXA TYA TXY TYX TSX TXS TCS TSC TCD TDC XBA. Each row of the opcode table has a meaning of its own over the handler of its mnemonic. -/

namespace Sys2Proof.Machine

/-- A value copied to X at its width (R260). -/
def toX (v : State → Word) : Handler := fun _ _ s => (s.writeX s.x8 (v s)).setNZ s.x8 (v s)

/-- A value copied to Y at its width (R261). -/
def toY (v : State → Word) : Handler := fun _ _ s => (s.writeY s.x8 (v s)).setNZ s.x8 (v s)

/-- A value copied to A at its width (R262). -/
def toA (v : State → Word) : Handler := fun _ _ s => (s.writeA s.m8 (v s)).setNZ s.m8 (v s)

/-- A value copied to SP, its high byte forced to 0x01 in emulation mode (R267, R268). -/
def toSp (v : State → Word) : Handler := fun _ _ s => { s with sp := if s.e then wordOf 0x01 (lo (v s)) else v s }

/-- TAX (R260). -/
def tax : Handler := toX State.a

/-- TAY (R261). -/
def tay : Handler := toY State.a

/-- TXA (R262). -/
def txa : Handler := toA State.x

/-- TYA (R263). -/
def tya : Handler := toA State.y

/-- TXY (R264). -/
def txy : Handler := toY State.x

/-- TYX (R265). -/
def tyx : Handler := toX State.y

/-- TSX (R266). -/
def tsx : Handler := toX State.sp

/-- TXS (R267). -/
def txs : Handler := toSp State.x

/-- TCS (R268). -/
def tcs : Handler := toSp State.a

/-- TSC (R269): always 16 bits. -/
def tsc : Handler := fun _ _ s => { s with a := s.sp }.setNZ false s.sp

/-- TCD (R270): always 16 bits. -/
def tcd : Handler := fun _ _ s => { s with dp := s.a }.setNZ false s.a

/-- TDC (R271): always 16 bits. -/
def tdc : Handler := fun _ _ s => { s with a := s.dp }.setNZ false s.dp

/-- XBA (R272): flags from the new low byte, always 8 bits. -/
def xba : Handler := fun _ _ s => { s with a := wordOf (lo s.a) (hi s.a) }.setNZ true (zext (hi s.a))

/-- TCS in mode IMPL, opcode 0x1B (R268, R122). -/
def execTcs (s : State) : Outcome := run .tcs .impl tcs s

/-- TSC in mode IMPL, opcode 0x3B (R269, R122). -/
def execTsc (s : State) : Outcome := run .tsc .impl tsc s

/-- TCD in mode IMPL, opcode 0x5B (R270, R122). -/
def execTcd (s : State) : Outcome := run .tcd .impl tcd s

/-- TDC in mode IMPL, opcode 0x7B (R271, R122). -/
def execTdc (s : State) : Outcome := run .tdc .impl tdc s

/-- TXA in mode IMPL, opcode 0x8A (R262, R122). -/
def execTxa (s : State) : Outcome := run .txa .impl txa s

/-- TYA in mode IMPL, opcode 0x98 (R263, R122). -/
def execTya (s : State) : Outcome := run .tya .impl tya s

/-- TXS in mode IMPL, opcode 0x9A (R267, R122). -/
def execTxs (s : State) : Outcome := run .txs .impl txs s

/-- TXY in mode IMPL, opcode 0x9B (R264, R122). -/
def execTxy (s : State) : Outcome := run .txy .impl txy s

/-- TAY in mode IMPL, opcode 0xA8 (R261, R122). -/
def execTay (s : State) : Outcome := run .tay .impl tay s

/-- TAX in mode IMPL, opcode 0xAA (R260, R122). -/
def execTax (s : State) : Outcome := run .tax .impl tax s

/-- TSX in mode IMPL, opcode 0xBA (R266, R122). -/
def execTsx (s : State) : Outcome := run .tsx .impl tsx s

/-- TYX in mode IMPL, opcode 0xBB (R265, R122). -/
def execTyx (s : State) : Outcome := run .tyx .impl tyx s

/-- XBA in mode IMPL, opcode 0xEB (R272, R122). -/
def execXba (s : State) : Outcome := run .xba .impl xba s

end Sys2Proof.Machine
end

