-- ==== Sys2Proof/Machine/Dispatch.lean ====
section
/-! DEFINITION. `exec`: one arm per constructor of `Instr`, each a direct call of that instruction's meaning. -/

namespace Sys2Proof.Machine

def exec (i : Instr) (s : State) : Host.Outcome State Fault Refusal :=
  match i with
  | .brk sig => Sys2Proof.Machine.execBrk sig s
  | .oraDpix d => Sys2Proof.Machine.execOraDpix d s
  | .cop sig => Sys2Proof.Machine.execCop sig s
  | .oraSrel d => Sys2Proof.Machine.execOraSrel d s
  | .tsbDpag d => Sys2Proof.Machine.execTsbDpag d s
  | .oraDpag d => Sys2Proof.Machine.execOraDpag d s
  | .aslDpag d => Sys2Proof.Machine.execAslDpag d s
  | .oraDpil d => Sys2Proof.Machine.execOraDpil d s
  | .php => Sys2Proof.Machine.execPhp s
  | .oraImmm v => Sys2Proof.Machine.execOraImmm v s
  | .aslAcc => Sys2Proof.Machine.execAslAcc s
  | .phd => Sys2Proof.Machine.execPhd s
  | .tsbAbs w => Sys2Proof.Machine.execTsbAbs w s
  | .oraAbs w => Sys2Proof.Machine.execOraAbs w s
  | .aslAbs w => Sys2Proof.Machine.execAslAbs w s
  | .oraAlng l => Sys2Proof.Machine.execOraAlng l s
  | .bpl d => Sys2Proof.Machine.execBpl d s
  | .oraDpiy d => Sys2Proof.Machine.execOraDpiy d s
  | .oraDpgi d => Sys2Proof.Machine.execOraDpgi d s
  | .oraSriy d => Sys2Proof.Machine.execOraSriy d s
  | .trbDpag d => Sys2Proof.Machine.execTrbDpag d s
  | .oraDpgx d => Sys2Proof.Machine.execOraDpgx d s
  | .aslDpgx d => Sys2Proof.Machine.execAslDpgx d s
  | .oraDily d => Sys2Proof.Machine.execOraDily d s
  | .clc => Sys2Proof.Machine.execClc s
  | .oraAbsy w => Sys2Proof.Machine.execOraAbsy w s
  | .incAcc => Sys2Proof.Machine.execIncAcc s
  | .tcs => Sys2Proof.Machine.execTcs s
  | .trbAbs w => Sys2Proof.Machine.execTrbAbs w s
  | .oraAbsx w => Sys2Proof.Machine.execOraAbsx w s
  | .aslAbsx w => Sys2Proof.Machine.execAslAbsx w s
  | .oraAlnx l => Sys2Proof.Machine.execOraAlnx l s
  | .jsrAbs w => Sys2Proof.Machine.execJsrAbs w s
  | .andDpix d => Sys2Proof.Machine.execAndDpix d s
  | .jsl l => Sys2Proof.Machine.execJsl l s
  | .andSrel d => Sys2Proof.Machine.execAndSrel d s
  | .bitDpag d => Sys2Proof.Machine.execBitDpag d s
  | .andDpag d => Sys2Proof.Machine.execAndDpag d s
  | .rolDpag d => Sys2Proof.Machine.execRolDpag d s
  | .andDpil d => Sys2Proof.Machine.execAndDpil d s
  | .plp => Sys2Proof.Machine.execPlp s
  | .andImmm v => Sys2Proof.Machine.execAndImmm v s
  | .rolAcc => Sys2Proof.Machine.execRolAcc s
  | .pld => Sys2Proof.Machine.execPld s
  | .bitAbs w => Sys2Proof.Machine.execBitAbs w s
  | .andAbs w => Sys2Proof.Machine.execAndAbs w s
  | .rolAbs w => Sys2Proof.Machine.execRolAbs w s
  | .andAlng l => Sys2Proof.Machine.execAndAlng l s
  | .bmi d => Sys2Proof.Machine.execBmi d s
  | .andDpiy d => Sys2Proof.Machine.execAndDpiy d s
  | .andDpgi d => Sys2Proof.Machine.execAndDpgi d s
  | .andSriy d => Sys2Proof.Machine.execAndSriy d s
  | .bitDpgx d => Sys2Proof.Machine.execBitDpgx d s
  | .andDpgx d => Sys2Proof.Machine.execAndDpgx d s
  | .rolDpgx d => Sys2Proof.Machine.execRolDpgx d s
  | .andDily d => Sys2Proof.Machine.execAndDily d s
  | .sec => Sys2Proof.Machine.execSec s
  | .andAbsy w => Sys2Proof.Machine.execAndAbsy w s
  | .decAcc => Sys2Proof.Machine.execDecAcc s
  | .tsc => Sys2Proof.Machine.execTsc s
  | .bitAbsx w => Sys2Proof.Machine.execBitAbsx w s
  | .andAbsx w => Sys2Proof.Machine.execAndAbsx w s
  | .rolAbsx w => Sys2Proof.Machine.execRolAbsx w s
  | .andAlnx l => Sys2Proof.Machine.execAndAlnx l s
  | .rti => Sys2Proof.Machine.execRti s
  | .eorDpix d => Sys2Proof.Machine.execEorDpix d s
  | .wdm b => Sys2Proof.Machine.execWdm b s
  | .eorSrel d => Sys2Proof.Machine.execEorSrel d s
  | .mvp dst src => Sys2Proof.Machine.execMvp dst src s
  | .eorDpag d => Sys2Proof.Machine.execEorDpag d s
  | .lsrDpag d => Sys2Proof.Machine.execLsrDpag d s
  | .eorDpil d => Sys2Proof.Machine.execEorDpil d s
  | .pha => Sys2Proof.Machine.execPha s
  | .eorImmm v => Sys2Proof.Machine.execEorImmm v s
  | .lsrAcc => Sys2Proof.Machine.execLsrAcc s
  | .phk => Sys2Proof.Machine.execPhk s
  | .jmpAbs w => Sys2Proof.Machine.execJmpAbs w s
  | .eorAbs w => Sys2Proof.Machine.execEorAbs w s
  | .lsrAbs w => Sys2Proof.Machine.execLsrAbs w s
  | .eorAlng l => Sys2Proof.Machine.execEorAlng l s
  | .bvc d => Sys2Proof.Machine.execBvc d s
  | .eorDpiy d => Sys2Proof.Machine.execEorDpiy d s
  | .eorDpgi d => Sys2Proof.Machine.execEorDpgi d s
  | .eorSriy d => Sys2Proof.Machine.execEorSriy d s
  | .mvn dst src => Sys2Proof.Machine.execMvn dst src s
  | .eorDpgx d => Sys2Proof.Machine.execEorDpgx d s
  | .lsrDpgx d => Sys2Proof.Machine.execLsrDpgx d s
  | .eorDily d => Sys2Proof.Machine.execEorDily d s
  | .cli => Sys2Proof.Machine.execCli s
  | .eorAbsy w => Sys2Proof.Machine.execEorAbsy w s
  | .phy => Sys2Proof.Machine.execPhy s
  | .tcd => Sys2Proof.Machine.execTcd s
  | .jmpAlng l => Sys2Proof.Machine.execJmpAlng l s
  | .eorAbsx w => Sys2Proof.Machine.execEorAbsx w s
  | .lsrAbsx w => Sys2Proof.Machine.execLsrAbsx w s
  | .eorAlnx l => Sys2Proof.Machine.execEorAlnx l s
  | .rts => Sys2Proof.Machine.execRts s
  | .adcDpix d => Sys2Proof.Machine.execAdcDpix d s
  | .per w => Sys2Proof.Machine.execPer w s
  | .adcSrel d => Sys2Proof.Machine.execAdcSrel d s
  | .stzDpag d => Sys2Proof.Machine.execStzDpag d s
  | .adcDpag d => Sys2Proof.Machine.execAdcDpag d s
  | .rorDpag d => Sys2Proof.Machine.execRorDpag d s
  | .adcDpil d => Sys2Proof.Machine.execAdcDpil d s
  | .pla => Sys2Proof.Machine.execPla s
  | .adcImmm v => Sys2Proof.Machine.execAdcImmm v s
  | .rorAcc => Sys2Proof.Machine.execRorAcc s
  | .rtl => Sys2Proof.Machine.execRtl s
  | .jmpAbsi w => Sys2Proof.Machine.execJmpAbsi w s
  | .adcAbs w => Sys2Proof.Machine.execAdcAbs w s
  | .rorAbs w => Sys2Proof.Machine.execRorAbs w s
  | .adcAlng l => Sys2Proof.Machine.execAdcAlng l s
  | .bvs d => Sys2Proof.Machine.execBvs d s
  | .adcDpiy d => Sys2Proof.Machine.execAdcDpiy d s
  | .adcDpgi d => Sys2Proof.Machine.execAdcDpgi d s
  | .adcSriy d => Sys2Proof.Machine.execAdcSriy d s
  | .stzDpgx d => Sys2Proof.Machine.execStzDpgx d s
  | .adcDpgx d => Sys2Proof.Machine.execAdcDpgx d s
  | .rorDpgx d => Sys2Proof.Machine.execRorDpgx d s
  | .adcDily d => Sys2Proof.Machine.execAdcDily d s
  | .sei => Sys2Proof.Machine.execSei s
  | .adcAbsy w => Sys2Proof.Machine.execAdcAbsy w s
  | .ply => Sys2Proof.Machine.execPly s
  | .tdc => Sys2Proof.Machine.execTdc s
  | .jmpAbxi w => Sys2Proof.Machine.execJmpAbxi w s
  | .adcAbsx w => Sys2Proof.Machine.execAdcAbsx w s
  | .rorAbsx w => Sys2Proof.Machine.execRorAbsx w s
  | .adcAlnx l => Sys2Proof.Machine.execAdcAlnx l s
  | .bra d => Sys2Proof.Machine.execBra d s
  | .staDpix d => Sys2Proof.Machine.execStaDpix d s
  | .brl w => Sys2Proof.Machine.execBrl w s
  | .staSrel d => Sys2Proof.Machine.execStaSrel d s
  | .styDpag d => Sys2Proof.Machine.execStyDpag d s
  | .staDpag d => Sys2Proof.Machine.execStaDpag d s
  | .stxDpag d => Sys2Proof.Machine.execStxDpag d s
  | .staDpil d => Sys2Proof.Machine.execStaDpil d s
  | .dey => Sys2Proof.Machine.execDey s
  | .bitImmm v => Sys2Proof.Machine.execBitImmm v s
  | .txa => Sys2Proof.Machine.execTxa s
  | .phb => Sys2Proof.Machine.execPhb s
  | .styAbs w => Sys2Proof.Machine.execStyAbs w s
  | .staAbs w => Sys2Proof.Machine.execStaAbs w s
  | .stxAbs w => Sys2Proof.Machine.execStxAbs w s
  | .staAlng l => Sys2Proof.Machine.execStaAlng l s
  | .bcc d => Sys2Proof.Machine.execBcc d s
  | .staDpiy d => Sys2Proof.Machine.execStaDpiy d s
  | .staDpgi d => Sys2Proof.Machine.execStaDpgi d s
  | .staSriy d => Sys2Proof.Machine.execStaSriy d s
  | .styDpgx d => Sys2Proof.Machine.execStyDpgx d s
  | .staDpgx d => Sys2Proof.Machine.execStaDpgx d s
  | .stxDpgy d => Sys2Proof.Machine.execStxDpgy d s
  | .staDily d => Sys2Proof.Machine.execStaDily d s
  | .tya => Sys2Proof.Machine.execTya s
  | .staAbsy w => Sys2Proof.Machine.execStaAbsy w s
  | .txs => Sys2Proof.Machine.execTxs s
  | .txy => Sys2Proof.Machine.execTxy s
  | .stzAbs w => Sys2Proof.Machine.execStzAbs w s
  | .staAbsx w => Sys2Proof.Machine.execStaAbsx w s
  | .stzAbsx w => Sys2Proof.Machine.execStzAbsx w s
  | .staAlnx l => Sys2Proof.Machine.execStaAlnx l s
  | .ldyImmx v => Sys2Proof.Machine.execLdyImmx v s
  | .ldaDpix d => Sys2Proof.Machine.execLdaDpix d s
  | .ldxImmx v => Sys2Proof.Machine.execLdxImmx v s
  | .ldaSrel d => Sys2Proof.Machine.execLdaSrel d s
  | .ldyDpag d => Sys2Proof.Machine.execLdyDpag d s
  | .ldaDpag d => Sys2Proof.Machine.execLdaDpag d s
  | .ldxDpag d => Sys2Proof.Machine.execLdxDpag d s
  | .ldaDpil d => Sys2Proof.Machine.execLdaDpil d s
  | .tay => Sys2Proof.Machine.execTay s
  | .ldaImmm v => Sys2Proof.Machine.execLdaImmm v s
  | .tax => Sys2Proof.Machine.execTax s
  | .plb => Sys2Proof.Machine.execPlb s
  | .ldyAbs w => Sys2Proof.Machine.execLdyAbs w s
  | .ldaAbs w => Sys2Proof.Machine.execLdaAbs w s
  | .ldxAbs w => Sys2Proof.Machine.execLdxAbs w s
  | .ldaAlng l => Sys2Proof.Machine.execLdaAlng l s
  | .bcs d => Sys2Proof.Machine.execBcs d s
  | .ldaDpiy d => Sys2Proof.Machine.execLdaDpiy d s
  | .ldaDpgi d => Sys2Proof.Machine.execLdaDpgi d s
  | .ldaSriy d => Sys2Proof.Machine.execLdaSriy d s
  | .ldyDpgx d => Sys2Proof.Machine.execLdyDpgx d s
  | .ldaDpgx d => Sys2Proof.Machine.execLdaDpgx d s
  | .ldxDpgy d => Sys2Proof.Machine.execLdxDpgy d s
  | .ldaDily d => Sys2Proof.Machine.execLdaDily d s
  | .clv => Sys2Proof.Machine.execClv s
  | .ldaAbsy w => Sys2Proof.Machine.execLdaAbsy w s
  | .tsx => Sys2Proof.Machine.execTsx s
  | .tyx => Sys2Proof.Machine.execTyx s
  | .ldyAbsx w => Sys2Proof.Machine.execLdyAbsx w s
  | .ldaAbsx w => Sys2Proof.Machine.execLdaAbsx w s
  | .ldxAbsy w => Sys2Proof.Machine.execLdxAbsy w s
  | .ldaAlnx l => Sys2Proof.Machine.execLdaAlnx l s
  | .cpyImmx v => Sys2Proof.Machine.execCpyImmx v s
  | .cmpDpix d => Sys2Proof.Machine.execCmpDpix d s
  | .rep b => Sys2Proof.Machine.execRep b s
  | .cmpSrel d => Sys2Proof.Machine.execCmpSrel d s
  | .cpyDpag d => Sys2Proof.Machine.execCpyDpag d s
  | .cmpDpag d => Sys2Proof.Machine.execCmpDpag d s
  | .decDpag d => Sys2Proof.Machine.execDecDpag d s
  | .cmpDpil d => Sys2Proof.Machine.execCmpDpil d s
  | .iny => Sys2Proof.Machine.execIny s
  | .cmpImmm v => Sys2Proof.Machine.execCmpImmm v s
  | .dex => Sys2Proof.Machine.execDex s
  | .wai => Sys2Proof.Machine.execWai s
  | .cpyAbs w => Sys2Proof.Machine.execCpyAbs w s
  | .cmpAbs w => Sys2Proof.Machine.execCmpAbs w s
  | .decAbs w => Sys2Proof.Machine.execDecAbs w s
  | .cmpAlng l => Sys2Proof.Machine.execCmpAlng l s
  | .bne d => Sys2Proof.Machine.execBne d s
  | .cmpDpiy d => Sys2Proof.Machine.execCmpDpiy d s
  | .cmpDpgi d => Sys2Proof.Machine.execCmpDpgi d s
  | .cmpSriy d => Sys2Proof.Machine.execCmpSriy d s
  | .pei d => Sys2Proof.Machine.execPei d s
  | .cmpDpgx d => Sys2Proof.Machine.execCmpDpgx d s
  | .decDpgx d => Sys2Proof.Machine.execDecDpgx d s
  | .cmpDily d => Sys2Proof.Machine.execCmpDily d s
  | .cld => Sys2Proof.Machine.execCld s
  | .cmpAbsy w => Sys2Proof.Machine.execCmpAbsy w s
  | .phx => Sys2Proof.Machine.execPhx s
  | .stp => Sys2Proof.Machine.execStp s
  | .jmpAbil w => Sys2Proof.Machine.execJmpAbil w s
  | .cmpAbsx w => Sys2Proof.Machine.execCmpAbsx w s
  | .decAbsx w => Sys2Proof.Machine.execDecAbsx w s
  | .cmpAlnx l => Sys2Proof.Machine.execCmpAlnx l s
  | .cpxImmx v => Sys2Proof.Machine.execCpxImmx v s
  | .sbcDpix d => Sys2Proof.Machine.execSbcDpix d s
  | .sep b => Sys2Proof.Machine.execSep b s
  | .sbcSrel d => Sys2Proof.Machine.execSbcSrel d s
  | .cpxDpag d => Sys2Proof.Machine.execCpxDpag d s
  | .sbcDpag d => Sys2Proof.Machine.execSbcDpag d s
  | .incDpag d => Sys2Proof.Machine.execIncDpag d s
  | .sbcDpil d => Sys2Proof.Machine.execSbcDpil d s
  | .inx => Sys2Proof.Machine.execInx s
  | .sbcImmm v => Sys2Proof.Machine.execSbcImmm v s
  | .nop => Sys2Proof.Machine.execNop s
  | .xba => Sys2Proof.Machine.execXba s
  | .cpxAbs w => Sys2Proof.Machine.execCpxAbs w s
  | .sbcAbs w => Sys2Proof.Machine.execSbcAbs w s
  | .incAbs w => Sys2Proof.Machine.execIncAbs w s
  | .sbcAlng l => Sys2Proof.Machine.execSbcAlng l s
  | .beq d => Sys2Proof.Machine.execBeq d s
  | .sbcDpiy d => Sys2Proof.Machine.execSbcDpiy d s
  | .sbcDpgi d => Sys2Proof.Machine.execSbcDpgi d s
  | .sbcSriy d => Sys2Proof.Machine.execSbcSriy d s
  | .pea w => Sys2Proof.Machine.execPea w s
  | .sbcDpgx d => Sys2Proof.Machine.execSbcDpgx d s
  | .incDpgx d => Sys2Proof.Machine.execIncDpgx d s
  | .sbcDily d => Sys2Proof.Machine.execSbcDily d s
  | .sed => Sys2Proof.Machine.execSed s
  | .sbcAbsy w => Sys2Proof.Machine.execSbcAbsy w s
  | .plx => Sys2Proof.Machine.execPlx s
  | .xce => Sys2Proof.Machine.execXce s
  | .jsrAbxi w => Sys2Proof.Machine.execJsrAbxi w s
  | .sbcAbsx w => Sys2Proof.Machine.execSbcAbsx w s
  | .incAbsx w => Sys2Proof.Machine.execIncAbsx w s
  | .sbcAlnx l => Sys2Proof.Machine.execSbcAlnx l s

end Sys2Proof.Machine
end

