-- ==== Sys2Proof/Machine/Step.lean ====
section
/-! DEFINITION. One step of the machine (spec/40_step_and_addressing.md R120). -/

namespace Sys2Proof.Machine

/-- `Step` (R120). The host's next pending action is taken first (it acts only between steps, spec/60_exceptions.md R345); then,
with HALTED = 0, the instruction at `PBR:PC` runs. -/
def step (s : State) : Host.Outcome State Fault Refusal :=
  if s.cfg.wf then
    if s.hostBoundary.halted then .fault .halted else exec s.hostBoundary.fetchInstr s.hostBoundary
  else .refused .illFormedConfiguration

/-- `s` with an opcode-table word stored where the next step fetches its instruction, and nothing pending before that step
(notes/assumptions/12.md). -/
def State.withFetchWord (s : State) (nbits w : Nat) : State := s.placeInstr nbits w

end Sys2Proof.Machine
end

