-- ==== Sys2Proof/Safety.lean ====
section
/-! DEFINITION. What counts as a safe run, and the words the statements are written in: the invariants, an instruction's operand and its next PC, frames of flags and of memory, pushed and pulled bytes. -/

namespace Sys2Proof.Machine

/-! ### Invariants (spec/10_state.md R32 to R34) -/

namespace State

/-- Mode forcing (R32). -/
def modeForced (s : State) : Prop := s.e = true → s.flag .m = true ∧ s.flag .x = true

/-- Stack page (R33). -/
def stackPaged (s : State) : Prop := s.e = true → hi s.sp = 0x01

/-- Index truncation (R34). -/
def indexTruncated (s : State) : Prop := s.x8 = true → hi s.x = 0x00 ∧ hi s.y = 0x00

/-- Memory is in canonical form and lists RAM indexes only (the model's own form; spec/20_memory.md R61). -/
def memoryInForm (s : State) : Prop := Memory.wf s.mem ∧ ∀ c ∈ s.mem, c.1 < s.cfg.ramSize

/-- The invariant of the machine. -/
structure Inv (s : State) : Prop where
  modeForced : s.modeForced
  stackPaged : s.stackPaged
  indexTruncated : s.indexTruncated
  memoryInForm : s.memoryInForm

/-- A safe run: `n` steps from `s` on, none of which stops. -/
def safeFor : Nat → State → Prop
  | 0, _ => True
  | n + 1, s => ∃ t, Sys2Proof.Machine.step s = .next t ∧ safeFor n t

/-! ### An instruction at a state -/

/-- The offset of the next instruction. -/
def nextPc (s : State) (i : Instr) : Word := s.pc + BitVec.ofNat 16 (i.length s.m8 s.x8)

/-- The mode cost and `HCOST` of an instruction (spec/70_reset_and_hazards.md R370, R371). -/
def costOf (s : State) (i : Instr) : Nat := s.instrCost i.op i.operand.mode

/-- `ea` of an instruction whose opcode is at `PBR:PC`. -/
def eaOf (s : State) (i : Instr) : Addr := s.ea i.operand

/-- The value of an instruction's operand at a width: its immediate, or `MemRead(ea, n)`. -/
def valueOf (s : State) (narrow : Bool) (i : Instr) : Word := s.operandValue narrow i.operand (s.eaOf i)

end State

/-- The instructions of mnemonic `op` are those of the opcodes listed, each in the mode listed with it. -/
def Encodes (op : Op) (forms : List (Byte × Mode)) : Prop :=
  ∀ i : Instr, i.op = op ↔ (i.opcode, i.operand.mode) ∈ forms

/-! ### Frames -/

/-- PC is at the next instruction and CYC has grown by the instruction's cost. -/
def Advanced (i : Instr) (s t : State) : Prop := t.pc = s.nextPc i ∧ t.cyc = s.cyc + s.costOf i

/-- N and Z are those of `v` at a width (spec/10_state.md R36). -/
def SetsNZ (narrow : Bool) (v : Word) (t : State) : Prop :=
  t.flag .n = signBit narrow v ∧ (t.flag .z = true ↔ (clip narrow v).toNat = 0)

/-- The accumulator holds `v` at a width; an 8-bit write keeps its high byte (spec/10_state.md R21). -/
def AccumulatorIs (narrow : Bool) (v : Word) (s t : State) : Prop := t.a = if narrow then wordOf (hi s.a) (lo v) else v

/-- `SetP(v)` was applied (spec/10_state.md R37): every flag is its bit of `v`, but that M and X are 1 in emulation mode, and the
index registers lose their high bytes where X is now 1. -/
def SetsP (v : Byte) (s t : State) : Prop :=
  (∀ f, t.flag f = if s.e = true ∧ (f = .m ∨ f = .x) then true else v.getLsbD f.bit) ∧
  (t.x = if t.flag .x then zext (lo s.x) else s.x) ∧ (t.y = if t.flag .x then zext (lo s.y) else s.y)

/-- Every flag but those listed is as before. -/
def KeepsFlags (written : List Flag) (s t : State) : Prop := ∀ f, f ∉ written → t.flag f = s.flag f

/-- Every byte of memory reads as before. -/
def KeepsMemory (s t : State) : Prop := ∀ a, t.readByte a = s.readByte a

/-- The address of the `k`-th of `n` bytes stored from `ea` on is `ea + k`; `a` is none of them, nor another name of one. -/
def OutsideBytes (s : State) (ea : Addr) (n : Nat) (a : Addr) : Prop :=
  ∀ k < n, s.cfg.index a ≠ s.cfg.index (ea + BitVec.ofNat 24 k)

/-- From `s` to `t` the value `v` was stored at `ea` at a width, and nothing else: bytes outside read as before, an address of
the ROM region reads as before, and each stored byte that lies in RAM reads as stored (the later one where both have one name). -/
def Stored (narrow : Bool) (ea : Addr) (v : Word) (s t : State) : Prop :=
  (∀ a, OutsideBytes s ea (accessSize narrow) a → t.readByte a = s.readByte a) ∧
  (∀ a, s.cfg.ramSize ≤ s.cfg.index a → t.readByte a = s.readByte a) ∧
  (s.cfg.index ea < s.cfg.ramSize → (narrow = true ∨ s.cfg.index (ea + 1) ≠ s.cfg.index ea) → t.readByte ea = lo v) ∧
  (narrow = false → s.cfg.index (ea + 1) < s.cfg.ramSize → t.readByte (ea + 1) = hi v)

/-! ### The stack (spec/45_stack.md R225 to R228) -/

namespace State

/-- The offset in bank 0 of the `k`-th byte pushed from `s` on, and SP after `k` pushes. -/
def slot (s : State) : Nat → Word
  | 0 => s.sp
  | k + 1 => spDown s.e (s.slot k)

/-- SP after `k` pulls from `s` on. -/
def pulledSp (s : State) : Nat → Word
  | 0 => s.sp
  | k + 1 => spUp s.e (s.pulledSp k)

/-- The `k`-th byte pulled from `s` on, counted from 0. -/
def pulledByte (s : State) (k : Nat) : Byte := s.readByte (addrOf 0x00 (s.pulledSp (k + 1)))

/-- The value of one byte pulled when `narrow`, else of two, the low one first. -/
def pulledValue (s : State) (narrow : Bool) : Word :=
  if narrow then zext (s.pulledByte 0) else wordOf (s.pulledByte 1) (s.pulledByte 0)

/-- The first `n` bytes pushed from `s` on land in RAM, each at an index of its own (spec/45_stack.md R228). -/
abbrev slotsInRam (n : Nat) (s : State) : Prop :=
  (∀ k < n, s.cfg.index (addrOf 0x00 (s.slot k)) < s.cfg.ramSize) ∧
  ∀ j < n, ∀ k < n, j ≠ k → s.cfg.index (addrOf 0x00 (s.slot j)) ≠ s.cfg.index (addrOf 0x00 (s.slot k))

end State

/-- From `s` to `t` the bytes listed were pushed, the first one first, and nothing else was stored: SP moved below them, bytes at
no slot read as before, the ROM region reads as before, and each byte whose slot lies in RAM and is not overwritten by a later
one reads as pushed. -/
def Pushed (bytes : List Byte) (s t : State) : Prop :=
  t.sp = s.slot bytes.length ∧
  (∀ a, (∀ k < bytes.length, s.cfg.index a ≠ s.cfg.index (addrOf 0x00 (s.slot k))) → t.readByte a = s.readByte a) ∧
  (∀ a, s.cfg.ramSize ≤ s.cfg.index a → t.readByte a = s.readByte a) ∧
  (∀ k b, bytes[k]? = some b → s.cfg.index (addrOf 0x00 (s.slot k)) < s.cfg.ramSize →
    (∀ j, k < j → j < bytes.length →
      s.cfg.index (addrOf 0x00 (s.slot j)) ≠ s.cfg.index (addrOf 0x00 (s.slot k))) →
    t.readByte (addrOf 0x00 (s.slot k)) = b)

/-- The bytes of a value pushed at a width, the high one first. -/
def pushBytes (narrow : Bool) (v : Word) : List Byte := if narrow then [lo v] else [hi v, lo v]

/-! ### Tables of the rules, by mnemonic -/

/-- What ASL, LSR, ROL, ROR, INC and DEC make of a `w`-bit value (spec/43_shift_incdec.md R190 to R195). -/
def rmwValue (op : Op) (w : Nat) (carry : Bool) (v : Nat) : Nat :=
  if op = .asl then 2 * v % 2 ^ w
  else if op = .lsr then v / 2
  else if op = .rol then (2 * v + carry.toNat) % 2 ^ w
  else if op = .ror then v / 2 + carry.toNat * 2 ^ (w - 1)
  else if op = .inc then (v + 1) % 2 ^ w
  else (v + 2 ^ w - 1) % 2 ^ w

/-- The carry after ASL, LSR, ROL, ROR, INC or DEC (R190 to R195): the bit shifted out, or as before. -/
def rmwCarry (op : Op) (w : Nat) (carry : Bool) (v : Nat) : Bool :=
  if op = .asl ∨ op = .rol then decide (2 ^ (w - 1) ≤ v)
  else if op = .lsr ∨ op = .ror then decide (v % 2 = 1)
  else carry

/-- Whether an 8-bit relative branch is taken (spec/44_branches.md R211 to R219). -/
def branchTaken (op : Op) (s : State) : Bool :=
  if op = .bcc then !s.flag .c
  else if op = .bcs then s.flag .c
  else if op = .beq then s.flag .z
  else if op = .bne then !s.flag .z
  else if op = .bmi then s.flag .n
  else if op = .bpl then !s.flag .n
  else if op = .bvc then !s.flag .v
  else if op = .bvs then s.flag .v
  else true

/-- The signed reading of a value at a width. -/
def signedValue (narrow : Bool) (v : Word) : Int := if narrow then (lo v).toInt else v.toInt

end Sys2Proof.Machine
end

