-- ==== Sys2Proof/Certificates/Slice0/Obligations.lean ====
section
/-! DEFINITION. The statements for the provers, from the numbered rules of spec/. -/

open Sys2Proof Sys2Proof.Machine

/-! ### Encoding (spec/30_encoding.md) -/

/-- R91, R92, R99: decoding an encoded well-formed instruction gives it back, with every operand and whatever bytes follow. The
opcode numbers and the place of the bank bytes of MVN and MVP are the spec's general knowledge and decision D31 (R94, R100;
notes/assumptions/15.md). -/
def Obligations.DecodeInvertsEncode : Prop :=
  ∀ (m8 x8 : Bool) (i : Instr) (rest : List Byte), i.wf m8 x8 = true →
    decode m8 x8 (encode m8 x8 i ++ rest) = .ok (i, rest)

/-- R90, R91: the bytes an instruction was decoded from are its encoding, and it is well formed. Well-formedness of an 8-bit
immediate is the model's own form (notes/assumptions/9.md). -/
def Obligations.EncodeInvertsDecode : Prop :=
  ∀ (m8 x8 : Bool) (bytes : List Byte) (i : Instr) (rest : List Byte), decode m8 x8 bytes = .ok (i, rest) →
    i.wf m8 x8 = true ∧ encode m8 x8 i ++ rest = bytes

/-- R96: no opcode is invalid and no operand byte reserved: four bytes always begin with an instruction, of the first byte's
opcode. -/
def Obligations.NoEncodingIsIllegal : Prop :=
  ∀ (m8 x8 : Bool) (b0 b1 b2 b3 : Byte) (rest : List Byte), ∃ i rest',
    decode m8 x8 (b0 :: b1 :: b2 :: b3 :: rest) = .ok (i, rest') ∧ i.opcode = b0

/-- R99: the length of an instruction, by its mode. R99 is the spec's own derivation from R91 and R93. -/
def Obligations.LengthIsTheModes : Prop :=
  ∀ (m8 x8 : Bool) (i : Instr),
    (i.operand.mode ∈ [.impl, .acc] → (encode m8 x8 i).length = 1) ∧
    (i.operand.mode ∈ [.immb, .dpag, .dpgx, .dpgy, .dpgi, .dpix, .dpiy, .dpil, .dily, .rela, .srel, .sriy] →
      (encode m8 x8 i).length = 2) ∧
    (i.operand.mode ∈ [.immw, .abs, .absx, .absy, .absi, .abxi, .abil, .lrel] → (encode m8 x8 i).length = 3) ∧
    (i.operand.mode ∈ [.alng, .alnx] → (encode m8 x8 i).length = 4) ∧
    (i.operand.mode = .immm → (encode m8 x8 i).length = 1 + if m8 then 1 else 2) ∧
    (i.operand.mode = .immx → (encode m8 x8 i).length = 1 + if x8 then 1 else 2)

/-- R93: the opcodes of the sized immediates, and that the width flags change the decoding of no other opcode. The opcode
numbers are the spec's general knowledge (R94; notes/assumptions/15.md). -/
def Obligations.WidthFlagsSizeOnlyImmediates : Prop :=
  (∀ i : Instr, i.operand.mode = .immm ↔ i.opcode ∈ [0x09, 0x29, 0x49, 0x69, 0x89, 0xA9, 0xC9, 0xE9]) ∧
  (∀ i : Instr, i.operand.mode = .immx ↔ i.opcode ∈ [0xA0, 0xA2, 0xC0, 0xE0]) ∧
  (∀ (m8 x8 m8' x8' : Bool) (b0 b1 b2 b3 : Byte),
    (b0 ∉ [0x09, 0x29, 0x49, 0x69, 0x89, 0xA9, 0xC9, 0xE9] ∨ m8 = m8') →
    (b0 ∉ [0xA0, 0xA2, 0xC0, 0xE0] ∨ x8 = x8') →
    decodeBytes m8 x8 b0 b1 b2 b3 = decodeBytes m8' x8' b0 b1 b2 b3)

/-- R94, R95, R160 to R317 (Encoding lines): the opcodes of every mnemonic, with the mode of each. The opcode numbers are the
spec's general knowledge (spec/30_encoding.md R94's warning; notes/assumptions/15.md). -/
def Obligations.OpcodesOfTheMnemonics : Prop :=
  Encodes .lda [(0xA1, .dpix), (0xA3, .srel), (0xA5, .dpag), (0xA7, .dpil), (0xA9, .immm), (0xAD, .abs), (0xAF,
    .alng), (0xB1, .dpiy), (0xB2, .dpgi), (0xB3, .sriy), (0xB5, .dpgx), (0xB7, .dily), (0xB9, .absy), (0xBD,
    .absx), (0xBF, .alnx)] ∧
  Encodes .ldx [(0xA2, .immx), (0xA6, .dpag), (0xAE, .abs), (0xB6, .dpgy), (0xBE, .absy)] ∧
  Encodes .ldy [(0xA0, .immx), (0xA4, .dpag), (0xAC, .abs), (0xB4, .dpgx), (0xBC, .absx)] ∧
  Encodes .sta [(0x81, .dpix), (0x83, .srel), (0x85, .dpag), (0x87, .dpil), (0x8D, .abs), (0x8F, .alng), (0x91,
    .dpiy), (0x92, .dpgi), (0x93, .sriy), (0x95, .dpgx), (0x97, .dily), (0x99, .absy), (0x9D, .absx), (0x9F,
    .alnx)] ∧
  Encodes .stx [(0x86, .dpag), (0x8E, .abs), (0x96, .dpgy)] ∧
  Encodes .sty [(0x84, .dpag), (0x8C, .abs), (0x94, .dpgx)] ∧
  Encodes .stz [(0x64, .dpag), (0x74, .dpgx), (0x9C, .abs), (0x9E, .absx)] ∧
  Encodes .adc [(0x61, .dpix), (0x63, .srel), (0x65, .dpag), (0x67, .dpil), (0x69, .immm), (0x6D, .abs), (0x6F,
    .alng), (0x71, .dpiy), (0x72, .dpgi), (0x73, .sriy), (0x75, .dpgx), (0x77, .dily), (0x79, .absy), (0x7D,
    .absx), (0x7F, .alnx)] ∧
  Encodes .sbc [(0xE1, .dpix), (0xE3, .srel), (0xE5, .dpag), (0xE7, .dpil), (0xE9, .immm), (0xED, .abs), (0xEF,
    .alng), (0xF1, .dpiy), (0xF2, .dpgi), (0xF3, .sriy), (0xF5, .dpgx), (0xF7, .dily), (0xF9, .absy), (0xFD,
    .absx), (0xFF, .alnx)] ∧
  Encodes .and [(0x21, .dpix), (0x23, .srel), (0x25, .dpag), (0x27, .dpil), (0x29, .immm), (0x2D, .abs), (0x2F,
    .alng), (0x31, .dpiy), (0x32, .dpgi), (0x33, .sriy), (0x35, .dpgx), (0x37, .dily), (0x39, .absy), (0x3D,
    .absx), (0x3F, .alnx)] ∧
  Encodes .ora [(0x01, .dpix), (0x03, .srel), (0x05, .dpag), (0x07, .dpil), (0x09, .immm), (0x0D, .abs), (0x0F,
    .alng), (0x11, .dpiy), (0x12, .dpgi), (0x13, .sriy), (0x15, .dpgx), (0x17, .dily), (0x19, .absy), (0x1D,
    .absx), (0x1F, .alnx)] ∧
  Encodes .eor [(0x41, .dpix), (0x43, .srel), (0x45, .dpag), (0x47, .dpil), (0x49, .immm), (0x4D, .abs), (0x4F,
    .alng), (0x51, .dpiy), (0x52, .dpgi), (0x53, .sriy), (0x55, .dpgx), (0x57, .dily), (0x59, .absy), (0x5D,
    .absx), (0x5F, .alnx)] ∧
  Encodes .cmp [(0xC1, .dpix), (0xC3, .srel), (0xC5, .dpag), (0xC7, .dpil), (0xC9, .immm), (0xCD, .abs), (0xCF,
    .alng), (0xD1, .dpiy), (0xD2, .dpgi), (0xD3, .sriy), (0xD5, .dpgx), (0xD7, .dily), (0xD9, .absy), (0xDD,
    .absx), (0xDF, .alnx)] ∧
  Encodes .cpx [(0xE0, .immx), (0xE4, .dpag), (0xEC, .abs)] ∧
  Encodes .cpy [(0xC0, .immx), (0xC4, .dpag), (0xCC, .abs)] ∧
  Encodes .bit [(0x24, .dpag), (0x2C, .abs), (0x34, .dpgx), (0x3C, .absx), (0x89, .immm)] ∧
  Encodes .tsb [(0x04, .dpag), (0x0C, .abs)] ∧
  Encodes .trb [(0x14, .dpag), (0x1C, .abs)] ∧
  Encodes .asl [(0x06, .dpag), (0x0A, .acc), (0x0E, .abs), (0x16, .dpgx), (0x1E, .absx)] ∧
  Encodes .lsr [(0x46, .dpag), (0x4A, .acc), (0x4E, .abs), (0x56, .dpgx), (0x5E, .absx)] ∧
  Encodes .rol [(0x26, .dpag), (0x2A, .acc), (0x2E, .abs), (0x36, .dpgx), (0x3E, .absx)] ∧
  Encodes .ror [(0x66, .dpag), (0x6A, .acc), (0x6E, .abs), (0x76, .dpgx), (0x7E, .absx)] ∧
  Encodes .inc [(0x1A, .acc), (0xE6, .dpag), (0xEE, .abs), (0xF6, .dpgx), (0xFE, .absx)] ∧
  Encodes .dec [(0x3A, .acc), (0xC6, .dpag), (0xCE, .abs), (0xD6, .dpgx), (0xDE, .absx)] ∧
  Encodes .inx [(0xE8, .impl)] ∧
  Encodes .iny [(0xC8, .impl)] ∧
  Encodes .dex [(0xCA, .impl)] ∧
  Encodes .dey [(0x88, .impl)] ∧
  Encodes .bcc [(0x90, .rela)] ∧
  Encodes .bcs [(0xB0, .rela)] ∧
  Encodes .beq [(0xF0, .rela)] ∧
  Encodes .bne [(0xD0, .rela)] ∧
  Encodes .bmi [(0x30, .rela)] ∧
  Encodes .bpl [(0x10, .rela)] ∧
  Encodes .bvc [(0x50, .rela)] ∧
  Encodes .bvs [(0x70, .rela)] ∧
  Encodes .bra [(0x80, .rela)] ∧
  Encodes .brl [(0x82, .lrel)] ∧
  Encodes .pha [(0x48, .impl)] ∧
  Encodes .phx [(0xDA, .impl)] ∧
  Encodes .phy [(0x5A, .impl)] ∧
  Encodes .php [(0x08, .impl)] ∧
  Encodes .phb [(0x8B, .impl)] ∧
  Encodes .phd [(0x0B, .impl)] ∧
  Encodes .phk [(0x4B, .impl)] ∧
  Encodes .pla [(0x68, .impl)] ∧
  Encodes .plx [(0xFA, .impl)] ∧
  Encodes .ply [(0x7A, .impl)] ∧
  Encodes .plp [(0x28, .impl)] ∧
  Encodes .plb [(0xAB, .impl)] ∧
  Encodes .pld [(0x2B, .impl)] ∧
  Encodes .pea [(0xF4, .immw)] ∧
  Encodes .pei [(0xD4, .dpag)] ∧
  Encodes .per [(0x62, .lrel)] ∧
  Encodes .tax [(0xAA, .impl)] ∧
  Encodes .tay [(0xA8, .impl)] ∧
  Encodes .txa [(0x8A, .impl)] ∧
  Encodes .tya [(0x98, .impl)] ∧
  Encodes .txy [(0x9B, .impl)] ∧
  Encodes .tyx [(0xBB, .impl)] ∧
  Encodes .tsx [(0xBA, .impl)] ∧
  Encodes .txs [(0x9A, .impl)] ∧
  Encodes .tcs [(0x1B, .impl)] ∧
  Encodes .tsc [(0x3B, .impl)] ∧
  Encodes .tcd [(0x5B, .impl)] ∧
  Encodes .tdc [(0x7B, .impl)] ∧
  Encodes .xba [(0xEB, .impl)] ∧
  Encodes .mvn [(0x54, .immw)] ∧
  Encodes .mvp [(0x44, .immw)] ∧
  Encodes .rep [(0xC2, .immb)] ∧
  Encodes .sep [(0xE2, .immb)] ∧
  Encodes .xce [(0xFB, .impl)] ∧
  Encodes .clc [(0x18, .impl)] ∧
  Encodes .sec [(0x38, .impl)] ∧
  Encodes .cli [(0x58, .impl)] ∧
  Encodes .sei [(0x78, .impl)] ∧
  Encodes .cld [(0xD8, .impl)] ∧
  Encodes .sed [(0xF8, .impl)] ∧
  Encodes .clv [(0xB8, .impl)] ∧
  Encodes .nop [(0xEA, .impl)] ∧
  Encodes .jmp [(0x4C, .abs), (0x5C, .alng), (0x6C, .absi), (0x7C, .abxi), (0xDC, .abil)] ∧
  Encodes .jsr [(0x20, .abs), (0xFC, .abxi)] ∧
  Encodes .jsl [(0x22, .alng)] ∧
  Encodes .rts [(0x60, .impl)] ∧
  Encodes .rtl [(0x6B, .impl)] ∧
  Encodes .brk [(0x00, .immb)] ∧
  Encodes .cop [(0x02, .immb)] ∧
  Encodes .rti [(0x40, .impl)] ∧
  Encodes .wai [(0xCB, .impl)] ∧
  Encodes .stp [(0xDB, .impl)] ∧
  Encodes .wdm [(0x42, .immb)]

/-- R91, R94, R100: words written out from the spec, at least one of each family, decode to the instructions they stand for.
The opcode numbers are the spec's general knowledge (R94; notes/assumptions/15.md). -/
def Obligations.SampleWordsDecode : Prop :=
  decode true true [0xA9, 0x80] = .ok (.ldaImmm 0x80, []) ∧
  decode false false [0xA9, 0x34, 0x12] = .ok (.ldaImmm 0x1234, []) ∧
  decode true true [0xA1, 0x00] = .ok (.ldaDpix 0x00, []) ∧
  decode true true [0xE5, 0x10] = .ok (.sbcDpag 0x10, []) ∧
  decode true true [0x66, 0x30] = .ok (.rorDpag 0x30, []) ∧
  decode true true [0xF0, 0x20] = .ok (.beq 0x20, []) ∧
  decode true true [0xF4, 0x34, 0x12] = .ok (.pea 0x1234, []) ∧
  decode true true [0x9A] = .ok (.txs, []) ∧
  decode true true [0x54, 0x02, 0x01] = .ok (.mvn 0x02 0x01, []) ∧
  decode true true [0xC2, 0x30] = .ok (.rep 0x30, []) ∧
  decode true true [0x22, 0x00, 0x90, 0x02] = .ok (.jsl 0x029000, []) ∧
  decode true true [0x00, 0xEA] = .ok (.brk 0xEA, [])

/-! ### The step, the host and reset -/

/-- R120, R25, R90 to R92: a step runs the instruction its bytes decode to, at the state the host leaves at the boundary; with
no pending host action that is the state itself. The bytes are the one at `PBR:PC`, then those from `PBR:(PC + 1)` on, where
`PC + 1` wraps in the bank and the later bytes stand at its 24-bit successors. The 24-bit successors are decision D27
(notes/assumptions/15.md), the four bytes whatever the length notes/assumptions/11.md, the boundary the model's form of R345
(notes/assumptions/5.md). -/
def Obligations.StepRunsTheDecodedInstruction : Prop :=
  (∀ (s : State) (i : Instr) (rest : List Byte), s.cfg.wf = true → s.hostBoundary.halted = false →
    decode s.hostBoundary.m8 s.hostBoundary.x8 s.hostBoundary.fetchBytes = .ok (i, rest) →
    step s = exec i s.hostBoundary ∧ (s.host = [] → s.hostBoundary = s)) ∧
  (∀ s : State,
    let opcodeAt := 2 ^ 16 * s.pbr.toNat + s.pc.toNat
    let operandAt := 2 ^ 16 * s.pbr.toNat + (s.pc.toNat + 1) % 2 ^ 16
    s.fetchBytes.length = 4 ∧ s.fetchBytes[0]? = some (s.readByte (BitVec.ofNat 24 opcodeAt)) ∧
    ∀ k < 3, s.fetchBytes[k + 1]? = some (s.readByte (BitVec.ofNat 24 (operandAt + k))))

/-- R331: from any state with HALTED = 0 (nothing pending from the host, and a configuration the spec accepts, R61) a step
yields one next state. -/
def Obligations.StepAlwaysCompletes : Prop :=
  ∀ s : State, s.cfg.wf = true → s.host = [] → s.halted = false → ∃ t, step s = .next t

/-- R344, R336, R360, R361: with HALTED = 1 no step is taken, unless the host resets first: then the step runs the instruction
decoded at the state the reset operation leaves, which has HALTED = 0 and PC at the reset vector's bytes in bank 0. That the
model says so by the stop `halted` is its own choice (notes/assumptions/6.md), the pending actions are its form of the host
(notes/assumptions/5.md). -/
def Obligations.HaltedEndsTheRunUntilReset : Prop :=
  ∀ s : State, s.cfg.wf = true → s.halted = true →
    (s.host = [] → step s = .fault .halted) ∧
    (∀ level rest, s.host = { intsig := level, reset := false } :: rest → step s = .fault .halted) ∧
    (∀ level rest, s.host = { intsig := level, reset := true } :: rest →
      let b : State := { s.hostReset with host := rest, intsig := level }
      b.halted = false ∧ b.pbr = 0x00 ∧ lo b.pc = s.readByte 0x00FFFC ∧ hi b.pc = s.readByte 0x00FFFD ∧
      (∀ i more, decode b.m8 b.x8 b.fetchBytes = .ok (i, more) → step s = exec i b) ∧ ∃ t, step s = .next t)

/-- R345, R338 in the model's form (notes/assumptions/5.md): a pending host action sets the level of INTSIG and may reset; it
changes nothing else. -/
def Obligations.HostActionAtTheBoundary : Prop :=
  ∀ (s : State) (h : HostAction) (rest : List HostAction), s.host = h :: rest →
    (h.reset = false → s.hostBoundary = { s with host := rest, intsig := h.intsig }) ∧
    (h.reset = true → s.hostBoundary = { s.hostReset with host := rest, intsig := h.intsig })

/-- R360, R41, R362: what the reset operation writes and what it leaves alone. The treatment of A, X, Y, CYC and HALTED is the
spec's decision D22. -/
def Obligations.ResetOperation : Prop :=
  ∀ s : State, let t := s.hostReset
    t.e = true ∧ t.pbr = 0x00 ∧ t.dbr = 0x00 ∧ t.dp = 0x0000 ∧ t.sp = 0x0100 ∧ t.p = 0x34 ∧
    hi t.x = 0x00 ∧ lo t.x = lo s.x ∧ hi t.y = 0x00 ∧ lo t.y = lo s.y ∧ t.cyc = 0 ∧ t.halted = false ∧
    lo t.pc = s.readByte 0x00FFFC ∧ hi t.pc = s.readByte 0x00FFFD ∧
    t.a = s.a ∧ KeepsMemory s t ∧ t.mem = s.mem ∧ t.intsig = s.intsig ∧ t.host = s.host ∧ t.cfg = s.cfg

/-- R41: the state after reset has the values the rule gives. A, XL, YL, memory and the configuration there are the model's
choices (notes/assumptions/2.md to 4.md) and are not stated. The accepted configuration is the model's choice too
(notes/assumptions/2.md). -/
def Obligations.StateAfterReset : Prop :=
  let t := State.reset
  t.e = true ∧ t.pbr = 0x00 ∧ t.dbr = 0x00 ∧ t.dp = 0x0000 ∧ t.sp = 0x0100 ∧ t.p = 0x34 ∧ t.pc = t.read16 0x00FFFC ∧
  hi t.x = 0x00 ∧ hi t.y = 0x00 ∧ t.cyc = 0 ∧ t.halted = false ∧ t.cfg.wf = true

/-- R344, R331: a run stops nowhere but in a state whose HALTED is 1 at its step's boundary. The boundary is the model's form
of R345 (notes/assumptions/5.md). -/
def Obligations.RunsStopOnlyWhenHalted : Prop :=
  ∀ (n : Nat) (s : State), s.cfg.wf = true →
    s.safeFor n ∨ ∃ k t, k < n ∧ Sys2Proof.core.run k s = .next t ∧ t.hostBoundary.halted = true

/-! ### Invariants and whole-machine rules -/

/-- R32, R33, R34 and the memory's form hold after reset. The memory's form is the model's own (notes/assumptions/4.md). -/
def Obligations.InvariantHoldsAfterReset : Prop := State.reset.Inv

/-- R32, R33, R34 and the memory's form are kept by every step, whatever instruction it runs and whatever the host does. The
memory's form is the model's own (notes/assumptions/4.md); the truncation by XCE and reset is decisions D21, D22. -/
def Obligations.StepKeepsTheInvariant : Prop :=
  ∀ s t : State, s.Inv → step s = .next t → t.Inv

/-- R61, R63: no step changes the configuration or a byte of the ROM region. The configuration is a field of State by the
model's choice (notes/assumptions/1.md). -/
def Obligations.StepKeepsConfigurationAndRom : Prop :=
  ∀ s t : State, step s = .next t →
    t.cfg = s.cfg ∧ ∀ a, s.cfg.ramSize ≤ s.cfg.index a → t.readByte a = s.readByte a

/-- R331, R371, R40, R345: every instruction completes from every state, makes CYC grow, and writes neither the configuration,
INTSIG nor the host's pending actions. That HCOST is at least 1 is decision D28; the fields cfg and host are the model's
(notes/assumptions/1.md, 5.md). -/
def Obligations.EveryInstructionCompletes : Prop :=
  ∀ (i : Instr) (s : State), ∃ t, exec i s = .next t ∧ s.cyc < t.cyc ∧ t.cfg = s.cfg ∧ t.intsig = s.intsig ∧ t.host = s.host

/-- R370, R371, R372: what an instruction other than an 8-bit relative branch adds to CYC. HCOST is a parameter of the
configuration (decision D28; notes/assumptions/13.md). -/
def Obligations.CyclesOfAnInstruction : Prop :=
  ∀ (i : Instr) (s : State), i.op ∉ [.bcc, .bcs, .beq, .bne, .bmi, .bpl, .bvc, .bvs, .bra] →
    ∃ t modeCost hcost, exec i s = .next t ∧ t.cyc = s.cyc + modeCost + hcost ∧ 1 ≤ hcost ∧
      hcost = s.cfg.handlerCost ⟨i.op, i.operand.mode, s.m8, s.x8, s.e⟩ ∧
      (i.operand.mode ∈ [.impl, .acc, .immb] → modeCost = 0) ∧
      (i.operand.mode ∈ [.immw, .dpag, .dpgx, .dpgy, .rela, .srel] → modeCost = 1) ∧
      (i.operand.mode = .immm → modeCost = if s.m8 then 0 else 1) ∧
      (i.operand.mode = .immx → modeCost = if s.x8 then 0 else 1) ∧
      (i.operand.mode ∈ [.abs, .absx, .absy, .lrel] → modeCost = 2) ∧
      (i.operand.mode ∈ [.alng, .alnx, .dpgi, .dpix, .dpiy, .sriy] → modeCost = 3) ∧
      (i.operand.mode ∈ [.absi, .abxi, .dpil, .dily] → modeCost = 4) ∧
      (i.operand.mode = .abil → modeCost = 5)

/-- R23 to R27, R29, R39: which instructions write E, PBR, DBR, DP, SP and HALTED. It collects the writers that the rules name
each for itself. -/
def Obligations.ControlRegisterWriters : Prop :=
  ∀ (i : Instr) (s t : State), exec i s = .next t →
    (t.e ≠ s.e → i.op = .xce) ∧
    (t.pbr ≠ s.pbr → i.op ∈ [.jsl, .rtl, .brk, .cop] ∨ (i.op = .rti ∧ s.e = false) ∨
      (i.op = .jmp ∧ i.operand.mode ∈ [.alng, .abil])) ∧
    (t.dbr ≠ s.dbr → i.op ∈ [.plb, .mvn, .mvp]) ∧
    (t.dp ≠ s.dp → i.op ∈ [.tcd, .pld]) ∧
    (t.sp ≠ s.sp → i.op ∈ [.pha, .phx, .phy, .php, .phb, .phd, .phk, .pla, .plx, .ply, .plp, .plb, .pld, .pea, .pei, .per,
      .jsr, .jsl, .rts, .rtl, .rti, .brk, .cop, .txs, .tcs, .xce]) ∧
    (t.halted ≠ s.halted → i.op = .wdm ∧ t.halted = true)

/-- R35: which instructions write each flag. That no other flag changes is decision D34. -/
def Obligations.FlagWriters : Prop :=
  ∀ (i : Instr) (s t : State), exec i s = .next t → i.op ∉ [.plp, .rti, .rep, .sep] →
    (t.flag .c ≠ s.flag .c → i.op ∈ [.adc, .sbc, .cmp, .cpx, .cpy, .asl, .lsr, .rol, .ror, .clc, .sec, .xce]) ∧
    (t.flag .z ≠ s.flag .z ∨ t.flag .n ≠ s.flag .n → i.op ∈ [.lda, .ldx, .ldy, .adc, .sbc, .and, .ora, .eor, .cmp, .cpx, .cpy,
      .asl, .lsr, .rol, .ror, .inc, .dec, .inx, .iny, .dex, .dey, .pla, .plx, .ply, .plb, .pld, .tax, .tay, .txa, .tya, .txy,
      .tyx, .tsx, .tsc, .tcd, .tdc, .xba, .bit, .tsb, .trb]) ∧
    (t.flag .n ≠ s.flag .n → i.op ∉ [.tsb, .trb] ∧ ¬ (i.op = .bit ∧ i.operand.mode = .immm)) ∧
    (t.flag .i ≠ s.flag .i → i.op ∈ [.brk, .cop, .sei, .cli]) ∧
    (t.flag .d ≠ s.flag .d → i.op ∈ [.brk, .cop, .sed, .cld]) ∧
    (t.flag .x ≠ s.flag .x ∨ t.flag .m ≠ s.flag .m → i.op = .xce) ∧
    (t.flag .v ≠ s.flag .v → i.op ∈ [.adc, .sbc, .clv] ∨ (i.op = .bit ∧ i.operand.mode ≠ .immm))

/-- R12, R68, R200: which instructions write memory; every other one leaves every byte as it was. It collects the writers that
the rules name each for itself. -/
def Obligations.MemoryWriters : Prop :=
  ∀ (i : Instr) (s t : State), exec i s = .next t →
    i.op ∉ [.sta, .stx, .sty, .stz, .tsb, .trb, .pha, .phx, .phy, .php, .phb, .phd, .phk, .pea, .pei, .per, .mvn, .mvp, .jsr,
      .jsl, .brk, .cop] →
    ¬ (i.op ∈ [.asl, .lsr, .rol, .ror, .inc, .dec] ∧ i.operand.mode ≠ .acc) → KeepsMemory s t

/-- R21: with an 8-bit accumulator only TDC, TSC, XBA, MVN and MVP change the high byte of A. R21 marks it as general knowledge
(notes/assumptions/15.md). -/
def Obligations.AccumulatorHighByteKept : Prop :=
  ∀ (i : Instr) (s t : State), exec i s = .next t → s.m8 = true → i.op ∉ [.tdc, .tsc, .xba, .mvn, .mvp] → hi t.a = hi s.a

/-! ### Memory and effective addresses -/

/-- R76, R62, R63: a byte written to RAM is read back at every address that names it, a byte written to the ROM region changes
nothing, and no other byte changes. -/
def Obligations.ByteRoundTrip : Prop :=
  ∀ (s : State) (a b : Addr) (v : Byte),
    (s.cfg.index a < s.cfg.ramSize → s.cfg.index b = s.cfg.index a → (s.writeByte a v).readByte b = v) ∧
    (s.cfg.ramSize ≤ s.cfg.index a → (s.writeByte a v).readByte b = s.readByte b) ∧
    (s.cfg.index b ≠ s.cfg.index a → (s.writeByte a v).readByte b = s.readByte b)

/-- R124 to R130, R133, R134, R136 to R138, R144 to R146: the effective address of the modes without a pointer, with each wrap.
The wraps of DPGX, DPGY, ALNX and RELA are decisions D19, D30, D40. -/
def Obligations.EffectiveAddressesWithoutPointer : Prop :=
  ∀ (s : State) (b d : Byte) (w : Word) (l : Addr),
    (∀ o, o ∈ [Operand.immb b, .immw w, .immm w, .immx w] →
      bankOf (s.ea o) = s.pbr ∧ (offsetOf (s.ea o)).toNat = (s.pc.toNat + 1) % 2 ^ 16) ∧
    (bankOf (s.ea (.abs w)) = s.dbr ∧ offsetOf (s.ea (.abs w)) = w) ∧
    (bankOf (s.ea (.absx w)) = s.dbr ∧ (offsetOf (s.ea (.absx w))).toNat = (w.toNat + s.xv.toNat) % 2 ^ 16) ∧
    (bankOf (s.ea (.absy w)) = s.dbr ∧ (offsetOf (s.ea (.absy w))).toNat = (w.toNat + s.yv.toNat) % 2 ^ 16) ∧
    s.ea (.alng l) = l ∧ (s.ea (.alnx l)).toNat = (l.toNat + s.xv.toNat) % 2 ^ 24 ∧
    (s.ea (.dpag d)).toNat = (s.dp.toNat + d.toNat) % 2 ^ 16 ∧
    (s.ea (.dpgx d)).toNat = (s.dp.toNat + (d.toNat + s.xv.toNat) % 2 ^ 8) % 2 ^ 16 ∧
    (s.ea (.dpgy d)).toNat = (s.dp.toNat + (d.toNat + s.yv.toNat) % 2 ^ 8) % 2 ^ 16 ∧
    (bankOf (s.ea (.rela d)) = s.pbr ∧ ((offsetOf (s.ea (.rela d))).toNat : Int) = (s.pc.toNat + 2 + d.toInt) % 2 ^ 16) ∧
    (bankOf (s.ea (.lrel w)) = s.pbr ∧ (offsetOf (s.ea (.lrel w))).toNat = (s.pc.toNat + 3 + w.toNat) % 2 ^ 16) ∧
    (s.ea (.srel d)).toNat =
      if s.e then 2 ^ 8 * (hi s.sp).toNat + ((lo s.sp).toNat + d.toNat) % 2 ^ 8 else (s.sp.toNat + d.toNat) % 2 ^ 16

/-- R131, R132, R135, R139 to R143, R147, R64: the effective address of the modes that read a pointer; the pointer's later
bytes are at the 24-bit successors of its first. The pointer of ABSI lies in bank PBR by decision D18
(notes/assumptions/10.md); D27, D29 and D30 decide the wraps. -/
def Obligations.EffectiveAddressesThroughPointer : Prop :=
  ∀ (s : State) (d : Byte) (w : Word),
    let word := fun (a : Addr) => (s.readByte a).toNat + 2 ^ 8 * (s.readByte (a + 1)).toNat
    let long := fun (a : Addr) => word a + 2 ^ 16 * (s.readByte (a + 2)).toNat
    let direct := addrOf 0x00 (s.dp + zext d)
    (s.ea (.absi w)).toNat = word (addrOf s.pbr w) ∧
    (bankOf (s.ea (.abxi w)) = s.pbr ∧ (offsetOf (s.ea (.abxi w))).toNat = word (addrOf s.pbr (w + s.xv))) ∧
    (s.ea (.abil w)).toNat = long (addrOf 0x00 w) ∧
    (bankOf (s.ea (.dpgi d)) = s.dbr ∧ (offsetOf (s.ea (.dpgi d))).toNat = word direct) ∧
    (bankOf (s.ea (.dpix d)) = s.dbr ∧
      (offsetOf (s.ea (.dpix d))).toNat = word (addrOf 0x00 (s.dp + zext d + s.xv))) ∧
    (bankOf (s.ea (.dpiy d)) = s.dbr ∧ (offsetOf (s.ea (.dpiy d))).toNat = (word direct + s.yv.toNat) % 2 ^ 16) ∧
    (s.ea (.dpil d)).toNat = long direct ∧
    (s.ea (.dily d)).toNat = (long direct + s.yv.toNat) % 2 ^ 24 ∧
    (bankOf (s.ea (.sriy d)) = s.dbr ∧
      (offsetOf (s.ea (.sriy d))).toNat = (word (s.ea (.srel d)) + s.yv.toNat) % 2 ^ 16)

/-! ### Load and store (spec/41_load_store.md) -/

/-- R160, R161, R162, R64, R66, R71, R126, R127: a load copies its operand at its width and sets N and Z from it; nothing else
changes. The first part says, for every instruction and either width, what the operand `State.valueOf` of this and the later
statements is: the immediate at its width, or the byte at `ea` and, at 16 bits, above it the byte at the 24-bit `ea + 1`. The
24-bit successor is decision D27 (notes/assumptions/15.md); that an instruction carries its immediate is the model's form
(notes/assumptions/8.md). -/
def Obligations.LoadsCopyTheOperand : Prop :=
  (∀ (i : Instr) (s : State) (narrow : Bool),
    (∀ v, i.operand = .immm v ∨ i.operand = .immx v ∨ i.operand = .immw v →
      s.valueOf narrow i = if narrow then zext (lo v) else v) ∧
    (∀ b, i.operand = .immb b → s.valueOf narrow i = zext b) ∧
    (i.operand.mode ∉ [.impl, .acc, .immb, .immw, .immm, .immx] →
      (s.valueOf narrow i).toNat =
        (s.readByte (s.eaOf i)).toNat + if narrow then 0 else 2 ^ 8 * (s.readByte (s.eaOf i + 1)).toNat)) ∧
  (∀ (i : Instr) (s : State), i.op = .lda → ∃ t, exec i s = .next t ∧ Advanced i s t ∧
    AccumulatorIs s.m8 (s.valueOf s.m8 i) s t ∧ SetsNZ s.m8 (s.valueOf s.m8 i) t ∧ KeepsFlags [.n, .z] s t ∧
    KeepsMemory s t ∧ { t with a := s.a, p := s.p, pc := s.pc, cyc := s.cyc } = s) ∧
  (∀ (i : Instr) (s : State), i.op = .ldx → ∃ t, exec i s = .next t ∧ Advanced i s t ∧
    t.x = s.valueOf s.x8 i ∧ SetsNZ s.x8 (s.valueOf s.x8 i) t ∧ KeepsFlags [.n, .z] s t ∧
    KeepsMemory s t ∧ { t with x := s.x, p := s.p, pc := s.pc, cyc := s.cyc } = s) ∧
  (∀ (i : Instr) (s : State), i.op = .ldy → ∃ t, exec i s = .next t ∧ Advanced i s t ∧
    t.y = s.valueOf s.x8 i ∧ SetsNZ s.x8 (s.valueOf s.x8 i) t ∧ KeepsFlags [.n, .z] s t ∧
    KeepsMemory s t ∧ { t with y := s.y, p := s.p, pc := s.pc, cyc := s.cyc } = s)

/-- R163 to R166, R65: a store writes its register, or zero, at `ea` at its width; no other byte, no flag and no register but
PC changes. That a store writes no flag is decision D34; that STZ is sized by M is general knowledge (R166). -/
def Obligations.StoresWriteTheRegister : Prop :=
  ∀ (i : Instr) (s : State), i.op ∈ [.sta, .stx, .sty, .stz] → ∃ t, exec i s = .next t ∧ Advanced i s t ∧
    (i.op = .sta → Stored s.m8 (s.eaOf i) s.a s t) ∧ (i.op = .stx → Stored s.x8 (s.eaOf i) s.x s t) ∧
    (i.op = .sty → Stored s.x8 (s.eaOf i) s.y s t) ∧ (i.op = .stz → Stored s.m8 (s.eaOf i) 0x0000 s t) ∧
    { t with mem := s.mem, pc := s.pc, cyc := s.cyc } = s

/-! ### Arithmetic and logic (spec/42_alu.md) -/

/-- R170, R171, R172: ADC and SBC by the recipe, binary and decimal, with C and V from the corrected sum. C and V from the
corrected sum is decision D4, one bit of it D43, SBC as a complemented sum D5 (notes/assumptions/10.md). -/
def Obligations.AdcSbcFollowTheRecipe : Prop :=
  ∀ (i : Instr) (s : State), i.op = .adc ∨ i.op = .sbc → ∃ t, exec i s = .next t ∧ Advanced i s t ∧
    (let w := if s.m8 then 8 else 16
     let v := (s.valueOf s.m8 i).toNat
     let a := (clip s.m8 s.a).toNat
     let data := if i.op = .adc then v else 2 ^ w - 1 - v
     let t0 := a + data + (s.flag .c).toNat
     let t1 := if s.flag .d = true ∧ 9 < t0 % 16 then t0 + 0x0006 else t0
     let t2 := if s.flag .d = true ∧ 9 < t1 / 2 ^ 4 % 16 then t1 + 0x0060 else t1
     let t3 := if s.flag .d = true ∧ s.m8 = false ∧ 9 < t2 / 2 ^ 8 % 16 then t2 + 0x0600 else t2
     let temp := if s.flag .d = true ∧ s.m8 = false ∧ 9 < t3 / 2 ^ 12 % 16 then t3 + 0x6000 else t3
     (clip s.m8 t.a).toNat = temp % 2 ^ w ∧
     (t.flag .c = true ↔ temp / 2 ^ w % 2 = 1) ∧
     (t.flag .v = true ↔ a / 2 ^ (w - 1) % 2 = data / 2 ^ (w - 1) % 2 ∧ a / 2 ^ (w - 1) % 2 ≠ temp / 2 ^ (w - 1) % 2)) ∧
    (s.m8 = true → hi t.a = hi s.a) ∧ SetsNZ s.m8 t.a t ∧ KeepsFlags [.c, .v, .n, .z] s t ∧
    KeepsMemory s t ∧ { t with a := s.a, p := s.p, pc := s.pc, cyc := s.cyc } = s

/-- R170, R172, R182: in binary mode ADC and SBC are addition and subtraction with carry: C is the unsigned carry or the
absence of a borrow, V the signed overflow. R182 is the spec's own derivation. -/
def Obligations.BinaryAdcSbcAreArithmetic : Prop :=
  ∀ (i : Instr) (s t : State), s.flag .d = false → exec i s = .next t →
    let w := if s.m8 then 8 else 16
    let v := (s.valueOf s.m8 i).toNat
    let a := (clip s.m8 s.a).toNat
    let c := (s.flag .c).toNat
    let sv := signedValue s.m8 (s.valueOf s.m8 i)
    let sa := signedValue s.m8 s.a
    (i.op = .adc → (clip s.m8 t.a).toNat = (a + v + c) % 2 ^ w ∧ (t.flag .c = true ↔ 2 ^ w ≤ a + v + c) ∧
      (t.flag .v = true ↔ sa + sv + c < -2 ^ (w - 1) ∨ 2 ^ (w - 1) ≤ sa + sv + c)) ∧
    (i.op = .sbc → ((clip s.m8 t.a).toNat : Int) = ((a : Int) - v - (1 - c)) % 2 ^ w ∧ (t.flag .c = true ↔ v + 1 ≤ a + c) ∧
      (t.flag .v = true ↔ sa - sv - (1 - c) < -2 ^ (w - 1) ∨ 2 ^ (w - 1) ≤ sa - sv - (1 - c)))

/-- R170, R171: in decimal mode an 8-bit ADC of decimal digits gives the decimal sum and its carry whenever no digit sum
exceeds 15. Decimal ADC of 16 bits is in AdcSbcFollowTheRecipe. It is derived from the recipe; beyond 15 the recipe is no
decimal adder (R170's warning). That C is taken from the corrected sum is decision D4 of conflict C1 (notes/assumptions/10.md).
-/
def Obligations.DecimalAdcOfSmallDigitSums : Prop :=
  ∀ (i : Instr) (s t : State) (a1 a0 d1 d0 : Nat), i.op = .adc → exec i s = .next t → s.m8 = true → s.flag .d = true →
    a1 ≤ 9 → a0 ≤ 9 → d1 ≤ 9 → d0 ≤ 9 → (lo s.a).toNat = 16 * a1 + a0 → (s.valueOf true i).toNat = 16 * d1 + d0 →
    let c := (s.flag .c).toNat
    a0 + d0 + c ≤ 15 → a1 + d1 + (if 9 < a0 + d0 + c then 1 else 0) ≤ 15 →
    ∃ r1 r0, r1 ≤ 9 ∧ r0 ≤ 9 ∧ (lo t.a).toNat = 16 * r1 + r0 ∧
      100 * (t.flag .c).toNat + 10 * r1 + r0 = 10 * a1 + a0 + (10 * d1 + d0) + c

/-- R173, R174, R175: AND, ORA and EOR. That no other flag changes is general knowledge (R173 to R175). -/
def Obligations.LogicOnTheAccumulator : Prop :=
  ∀ (i : Instr) (s : State), i.op ∈ [.and, .ora, .eor] → ∃ t, exec i s = .next t ∧ Advanced i s t ∧
    (i.op = .and → AccumulatorIs s.m8 (s.a &&& s.valueOf s.m8 i) s t) ∧
    (i.op = .ora → AccumulatorIs s.m8 (s.a ||| s.valueOf s.m8 i) s t) ∧
    (i.op = .eor → AccumulatorIs s.m8 (s.a ^^^ s.valueOf s.m8 i) s t) ∧
    SetsNZ s.m8 t.a t ∧ KeepsFlags [.n, .z] s t ∧ KeepsMemory s t ∧
    { t with a := s.a, p := s.p, pc := s.pc, cyc := s.cyc } = s

/-- R176, R177, R178: CMP, CPX and CPY: C is the unsigned comparison, Z equality, N the sign of the wrapped difference. The
flags are decision D6. -/
def Obligations.ComparesSetFlags : Prop :=
  ∀ (i : Instr) (s : State), i.op ∈ [.cmp, .cpx, .cpy] → ∃ t, exec i s = .next t ∧ Advanced i s t ∧
    (let narrow := if i.op = .cmp then s.m8 else s.x8
     let w := if narrow then 8 else 16
     let r := (clip narrow (if i.op = .cmp then s.a else if i.op = .cpx then s.x else s.y)).toNat
     let data := (s.valueOf narrow i).toNat
     (t.flag .c = true ↔ data ≤ r) ∧ (t.flag .z = true ↔ r = data) ∧
     (t.flag .n = true ↔ 2 ^ (w - 1) ≤ (r + 2 ^ w - data) % 2 ^ w)) ∧
    KeepsFlags [.c, .z, .n] s t ∧ KeepsMemory s t ∧ { t with p := s.p, pc := s.pc, cyc := s.cyc } = s

/-- R179: BIT; the immediate form writes Z only. The flags are decision D7. -/
def Obligations.BitTestsTheOperand : Prop :=
  ∀ (i : Instr) (s : State), i.op = .bit → ∃ t, exec i s = .next t ∧ Advanced i s t ∧
    (t.flag .z = true ↔ (clip s.m8 s.a &&& s.valueOf s.m8 i) = 0) ∧
    (i.operand.mode ≠ .immm →
      t.flag .n = (s.valueOf s.m8 i).getLsbD (if s.m8 then 7 else 15) ∧
      t.flag .v = (s.valueOf s.m8 i).getLsbD (if s.m8 then 6 else 14)) ∧
    KeepsFlags (if i.operand.mode = .immm then [.z] else [.z, .n, .v]) s t ∧ KeepsMemory s t ∧
    { t with p := s.p, pc := s.pc, cyc := s.cyc } = s

/-- R180, R181: TSB and TRB: Z from the value before, the bits of A set or cleared in memory. The flags are general knowledge
(R180, R181). -/
def Obligations.TestAndModifyBits : Prop :=
  ∀ (i : Instr) (s : State), i.op = .tsb ∨ i.op = .trb → ∃ t, exec i s = .next t ∧ Advanced i s t ∧
    (t.flag .z = true ↔ (clip s.m8 s.a &&& s.valueOf s.m8 i) = 0) ∧ KeepsFlags [.z] s t ∧
    Stored s.m8 (s.eaOf i) (if i.op = .tsb then s.valueOf s.m8 i ||| s.a else s.valueOf s.m8 i &&& ~~~s.a) s t ∧
    { t with p := s.p, mem := s.mem, pc := s.pc, cyc := s.cyc } = s

/-! ### Shift, rotate, increment, decrement (spec/43_shift_incdec.md) -/

/-- R190 to R195, R200: the accumulator forms. N, Z and the rotation through carry are general knowledge and decision D8. -/
def Obligations.RmwOnTheAccumulator : Prop :=
  ∀ (i : Instr) (s : State), i.op ∈ [.asl, .lsr, .rol, .ror, .inc, .dec] → i.operand.mode = .acc →
    ∃ t, exec i s = .next t ∧ Advanced i s t ∧
    (let w := if s.m8 then 8 else 16
     let v := (clip s.m8 s.a).toNat
     (clip s.m8 t.a).toNat = rmwValue i.op w (s.flag .c) v ∧ t.flag .c = rmwCarry i.op w (s.flag .c) v) ∧
    (s.m8 = true → hi t.a = hi s.a) ∧ SetsNZ s.m8 t.a t ∧ KeepsFlags [.c, .n, .z] s t ∧ KeepsMemory s t ∧
    { t with a := s.a, p := s.p, pc := s.pc, cyc := s.cyc } = s

/-- R190 to R195, R200: the memory forms, one read then one write at `ea`; flags are set from the result also where the write
is discarded. N, Z and the rotation through carry are general knowledge and decision D8; one read and one write is D35. -/
def Obligations.RmwOnMemory : Prop :=
  ∀ (i : Instr) (s : State), i.op ∈ [.asl, .lsr, .rol, .ror, .inc, .dec] → i.operand.mode ≠ .acc →
    ∃ t, exec i s = .next t ∧ Advanced i s t ∧
    (let w := if s.m8 then 8 else 16
     let v := (s.valueOf s.m8 i).toNat
     let r := BitVec.ofNat 16 (rmwValue i.op w (s.flag .c) v)
     Stored s.m8 (s.eaOf i) r s t ∧ t.flag .c = rmwCarry i.op w (s.flag .c) v ∧ SetsNZ s.m8 r t) ∧
    KeepsFlags [.c, .n, .z] s t ∧ { t with p := s.p, mem := s.mem, pc := s.pc, cyc := s.cyc } = s

/-- R196 to R199: INX, INY, DEX and DEY at the index width. -/
def Obligations.IndexIncrementDecrement : Prop :=
  ∀ (i : Instr) (s : State), i.op ∈ [.inx, .iny, .dex, .dey] → ∃ t, exec i s = .next t ∧ Advanced i s t ∧
    (let w := if s.x8 then 8 else 16
     (i.op = .inx → t.x.toNat = (s.x.toNat + 1) % 2 ^ w ∧ SetsNZ s.x8 t.x t ∧ t.y = s.y) ∧
     (i.op = .iny → t.y.toNat = (s.y.toNat + 1) % 2 ^ w ∧ SetsNZ s.x8 t.y t ∧ t.x = s.x) ∧
     (i.op = .dex → t.x.toNat = (s.x.toNat + 2 ^ w - 1) % 2 ^ w ∧ SetsNZ s.x8 t.x t ∧ t.y = s.y) ∧
     (i.op = .dey → t.y.toNat = (s.y.toNat + 2 ^ w - 1) % 2 ^ w ∧ SetsNZ s.x8 t.y t ∧ t.x = s.x)) ∧
    KeepsFlags [.n, .z] s t ∧ KeepsMemory s t ∧ { t with x := s.x, y := s.y, p := s.p, pc := s.pc, cyc := s.cyc } = s

/-! ### Branches (spec/44_branches.md) -/

/-- R210 to R220, R372: where the branches go, and what they cost; BRL always goes, in the bank, with no branch addition. The
conditions are decision D9; the page test D40; BRA and BRL D37. -/
def Obligations.BranchesGoToTheTarget : Prop :=
  (∀ (i : Instr) (s : State) (d : Byte), i.op ∈ [.bcc, .bcs, .beq, .bne, .bmi, .bpl, .bvc, .bvs, .bra] →
    i.operand = .rela d → ∃ t, exec i s = .next t ∧
    (branchTaken i.op s = true →
      (t.pc.toNat : Int) = (s.pc.toNat + 2 + d.toInt) % 2 ^ 16 ∧
      t.cyc = s.cyc + s.costOf i + 1 + (if s.e = true ∧ hi t.pc ≠ hi (s.pc + 2) then 1 else 0)) ∧
    (branchTaken i.op s = false → t.pc = s.pc + 2 ∧ t.cyc = s.cyc + s.costOf i) ∧
    KeepsMemory s t ∧ { t with pc := s.pc, cyc := s.cyc } = s) ∧
  ∀ (w : Word) (s : State), ∃ t, exec (.brl w) s = .next t ∧ t.pc.toNat = (s.pc.toNat + 3 + w.toNat) % 2 ^ 16 ∧
    t.cyc = s.cyc + s.costOf (.brl w) ∧ KeepsMemory s t ∧ { t with pc := s.pc, cyc := s.cyc } = s

/-! ### Stack (spec/45_stack.md) -/

/-- R228, R225 to R227: what was pushed is pulled, and SP is as before, where the bytes written land in RAM, each at an index
of its own. Where SP points is decision D10; that the indexes differ excludes only a mask of 0 bits, under which the law fails.
-/
def Obligations.StackSymmetry : Prop :=
  ∀ (s : State) (v : Word) (b : Byte),
    (s.slotsInRam 2 → (s.push16 v).pull16.1 = v ∧ (s.push16 v).pull16.2.sp = s.sp) ∧
    (s.slotsInRam 1 → (s.push8 b).pull8.1 = b ∧ (s.push8 b).pull8.2.sp = s.sp)

/-- R229 to R235, R242 to R244: the pushes. Where SP points is decision D10; the width of PEA, PEI and PER D13; the byte PHP
pushes D33. -/
def Obligations.PushesWriteTheStack : Prop :=
  ∀ (i : Instr) (s : State), i.op ∈ [.pha, .phx, .phy, .php, .phb, .phd, .phk, .pea, .pei, .per] →
    ∃ t, exec i s = .next t ∧ Advanced i s t ∧
    (i.op = .pha → Pushed (pushBytes s.m8 s.a) s t) ∧ (i.op = .phx → Pushed (pushBytes s.x8 s.x) s t) ∧
    (i.op = .phy → Pushed (pushBytes s.x8 s.y) s t) ∧ (i.op = .php → Pushed [s.p] s t) ∧
    (i.op = .phb → Pushed [s.dbr] s t) ∧ (i.op = .phd → Pushed [hi s.dp, lo s.dp] s t) ∧
    (i.op = .phk → Pushed [s.pbr] s t) ∧
    (i.op ∈ [.pea, .pei] → Pushed (pushBytes false (s.valueOf false i)) s t) ∧
    (i.op = .per → Pushed (pushBytes false (offsetOf (s.eaOf i))) s t) ∧
    { t with sp := s.sp, mem := s.mem, pc := s.pc, cyc := s.cyc } = s

/-- R236, R237, R238, R240, R241: the pulls of a register, with N and Z. The flags are decision D12; where SP points D10. -/
def Obligations.PullsReadTheStack : Prop :=
  ∀ (i : Instr) (s : State), i.op ∈ [.pla, .plx, .ply, .plb, .pld] → ∃ t, exec i s = .next t ∧ Advanced i s t ∧
    (i.op = .pla → AccumulatorIs s.m8 (s.pulledValue s.m8) s t ∧ SetsNZ s.m8 (s.pulledValue s.m8) t ∧
      { t with a := s.a, sp := s.sp, p := s.p, pc := s.pc, cyc := s.cyc } = s ∧ t.sp = s.pulledSp (accessSize s.m8)) ∧
    (i.op = .plx → t.x = s.pulledValue s.x8 ∧ SetsNZ s.x8 t.x t ∧
      { t with x := s.x, sp := s.sp, p := s.p, pc := s.pc, cyc := s.cyc } = s ∧ t.sp = s.pulledSp (accessSize s.x8)) ∧
    (i.op = .ply → t.y = s.pulledValue s.x8 ∧ SetsNZ s.x8 t.y t ∧
      { t with y := s.y, sp := s.sp, p := s.p, pc := s.pc, cyc := s.cyc } = s ∧ t.sp = s.pulledSp (accessSize s.x8)) ∧
    (i.op = .plb → t.dbr = s.pulledByte 0 ∧ SetsNZ true (zext t.dbr) t ∧
      { t with dbr := s.dbr, sp := s.sp, p := s.p, pc := s.pc, cyc := s.cyc } = s ∧ t.sp = s.pulledSp 1) ∧
    (i.op = .pld → t.dp = s.pulledValue false ∧ SetsNZ false t.dp t ∧
      { t with dp := s.dp, sp := s.sp, p := s.p, pc := s.pc, cyc := s.cyc } = s ∧ t.sp = s.pulledSp 2) ∧
    KeepsFlags [.n, .z] s t ∧ KeepsMemory s t

/-- R37: `SetP` writes all of P, with M and X forced in emulation mode and the index registers truncated where X is now 1; A
and everything else is kept. -/
def Obligations.SetPWritesTheWholeStatus : Prop :=
  ∀ (v : Byte) (s : State), SetsP v s (s.setP v) ∧ { s.setP v with x := s.x, y := s.y, p := s.p } = s

/-- R37, R239, R285, R286: PLP, REP and SEP write all of P through `SetP`. The bit positions of the mask are decision D2. -/
def Obligations.StatusWrittenThroughSetP : Prop :=
  (∀ s : State, ∃ t, exec .plp s = .next t ∧ Advanced .plp s t ∧ SetsP (s.pulledByte 0) s t ∧ t.sp = s.pulledSp 1 ∧
    KeepsMemory s t ∧ { t with x := s.x, y := s.y, sp := s.sp, p := s.p, pc := s.pc, cyc := s.cyc } = s) ∧
  (∀ (m : Byte) (s : State), ∃ t, exec (.rep m) s = .next t ∧ Advanced (.rep m) s t ∧ SetsP (s.p &&& ~~~m) s t ∧
    KeepsMemory s t ∧ { t with x := s.x, y := s.y, p := s.p, pc := s.pc, cyc := s.cyc } = s) ∧
  (∀ (m : Byte) (s : State), ∃ t, exec (.sep m) s = .next t ∧ Advanced (.sep m) s t ∧ SetsP (s.p ||| m) s t ∧
    KeepsMemory s t ∧ { t with x := s.x, y := s.y, p := s.p, pc := s.pc, cyc := s.cyc } = s)

/-! ### Transfers (spec/46_transfers.md) -/

/-- R260 to R266: the transfers to A, X or Y at the destination's width, with N and Z. The flags are decision D11. -/
def Obligations.TransfersAtTheDestinationsWidth : Prop :=
  ∀ (i : Instr) (s : State), i.op ∈ [.tax, .tay, .txa, .tya, .txy, .tyx, .tsx] →
    ∃ t, exec i s = .next t ∧ Advanced i s t ∧
    (let source := if i.op ∈ [.tax, .tay] then s.a else if i.op ∈ [.txa, .txy] then s.x
       else if i.op ∈ [.tya, .tyx] then s.y else s.sp
     (i.op ∈ [.tax, .tyx, .tsx] → t.x = clip s.x8 source ∧ SetsNZ s.x8 source t ∧
       { t with x := s.x, p := s.p, pc := s.pc, cyc := s.cyc } = s) ∧
     (i.op ∈ [.tay, .txy] → t.y = clip s.x8 source ∧ SetsNZ s.x8 source t ∧
       { t with y := s.y, p := s.p, pc := s.pc, cyc := s.cyc } = s) ∧
     (i.op ∈ [.txa, .tya] → AccumulatorIs s.m8 source s t ∧ SetsNZ s.m8 source t ∧
       { t with a := s.a, p := s.p, pc := s.pc, cyc := s.cyc } = s)) ∧
    KeepsFlags [.n, .z] s t ∧ KeepsMemory s t

/-- R267, R268: TXS and TCS: page 1 forced in emulation mode, no flag written. That no flag changes is decision D11. -/
def Obligations.TransfersToTheStackPointer : Prop :=
  ∀ (i : Instr) (s : State), i.op = .txs ∨ i.op = .tcs → ∃ t, exec i s = .next t ∧ Advanced i s t ∧
    (let source := if i.op = .txs then s.x else s.a
     if s.e = true then hi t.sp = 0x01 ∧ lo t.sp = lo source else t.sp = source) ∧
    KeepsMemory s t ∧ { t with sp := s.sp, pc := s.pc, cyc := s.cyc } = s

/-- R269 to R272: TSC, TCD and TDC, always 16 bits, and XBA with the flags of the new low byte. The flags are decision D11; XBA
is decision D14. -/
def Obligations.SixteenBitTransfersAndXba : Prop :=
  ∀ (i : Instr) (s : State), i.op ∈ [.tsc, .tcd, .tdc, .xba] → ∃ t, exec i s = .next t ∧ Advanced i s t ∧
    (i.op = .tsc → t.a = s.sp ∧ SetsNZ false s.sp t ∧ t.dp = s.dp) ∧
    (i.op = .tcd → t.dp = s.a ∧ SetsNZ false s.a t ∧ t.a = s.a) ∧
    (i.op = .tdc → t.a = s.dp ∧ SetsNZ false s.dp t ∧ t.dp = s.dp) ∧
    (i.op = .xba → lo t.a = hi s.a ∧ hi t.a = lo s.a ∧ SetsNZ true t.a t ∧ t.dp = s.dp) ∧
    KeepsFlags [.n, .z] s t ∧ KeepsMemory s t ∧
    { t with a := s.a, dp := s.dp, p := s.p, pc := s.pc, cyc := s.cyc } = s

/-! ### Block move (spec/47_block_move.md) -/

/-- R280, R281, R282: one step of MVN or MVP. Index width is decision D20, no flags D34, the place of the bank bytes D31. -/
def Obligations.BlockMoveMovesOneByte : Prop :=
  ∀ (down : Bool) (dst src : Byte) (s : State), ∃ t,
    exec (if down then .mvp dst src else .mvn dst src) s = .next t ∧
    Stored true (addrOf dst s.yv) (zext (s.readByte (addrOf src s.xv))) s t ∧ t.dbr = dst ∧
    (let w := if s.x8 then 8 else 16
     let delta := if down then 2 ^ w - 1 else 1
     t.x.toNat = (s.x.toNat + delta) % 2 ^ w ∧ t.y.toNat = (s.y.toNat + delta) % 2 ^ w) ∧
    t.a.toNat = (s.a.toNat + 2 ^ 16 - 1) % 2 ^ 16 ∧ (t.pc = if s.a = 0x0000 then s.pc + 3 else s.pc) ∧
    t.cyc = s.cyc + s.costOf (if down then .mvp dst src else .mvn dst src) ∧
    { t with a := s.a, x := s.x, y := s.y, dbr := s.dbr, mem := s.mem, pc := s.pc, cyc := s.cyc } = s

/-- R280 to R282, R75, R370, R371: a block move from any A runs A + 1 steps and ends, provided it overwrites none of its own
three bytes: A is 0xFFFF, X and Y have moved by A + 1 at their width, DBR is the destination bank, PC is past the instruction,
every byte outside the destination is as before, and each byte arrives that no earlier move of this one changed at its source
and no later move overwrites; CYC has grown by the cost of A + 1 steps. Index width is decision D20, the place of the bank
bytes D31, HCOST a parameter D28; R75 is the spec's own derivation. -/
def Obligations.BlockMoveRunsToTheEnd : Prop :=
  ∀ (down : Bool) (dst src : Byte) (s : State), s.cfg.wf = true → s.host = [] → s.halted = false →
    s.readByte s.opcodeAddr = (if down then 0x44 else 0x54) → s.readByte s.operandAddr = dst →
    s.readByte (s.operandAddr + 1) = src →
    let n := s.a.toNat + 1
    let moved := fun (v : Word) (k : Nat) => clip s.x8 (if down then v - BitVec.ofNat 16 k else v + BitVec.ofNat 16 k)
    let from_ := fun k => s.cfg.index (addrOf src (moved s.x k))
    let to_ := fun k => s.cfg.index (addrOf dst (moved s.y k))
    (∀ k < n, to_ k ≠ s.cfg.index s.opcodeAddr ∧ to_ k ≠ s.cfg.index s.operandAddr ∧
      to_ k ≠ s.cfg.index (s.operandAddr + 1)) →
    ∃ t, Sys2Proof.core.run n s = .next t ∧ t.a = 0xFFFF ∧ t.x = moved s.x n ∧ t.y = moved s.y n ∧ t.dbr = dst ∧
      t.pc = s.pc + 3 ∧ t.cyc = s.cyc + n * s.costOf (if down then .mvp dst src else .mvn dst src) ∧
      (∀ a, (∀ k < n, s.cfg.index a ≠ to_ k) → t.readByte a = s.readByte a) ∧
      (∀ k < n, to_ k < s.cfg.ramSize → (∀ j < k, to_ j ≠ from_ k) → (∀ j < n, k < j → to_ j ≠ to_ k) →
        t.readByte (addrOf dst (moved s.y k)) = s.readByte (addrOf src (moved s.x k))) ∧
      { t with a := s.a, x := s.x, y := s.y, dbr := s.dbr, mem := s.mem, pc := s.pc, cyc := s.cyc } = s

/-! ### Mode control and flags (spec/48_mode_control_flags.md) -/

/-- R287: XCE. The truncation by XCE is decision D21. -/
def Obligations.XceExchangesCarryAndE : Prop :=
  ∀ s : State, ∃ t, exec .xce s = .next t ∧ Advanced .xce s t ∧ t.e = s.flag .c ∧ t.flag .c = s.e ∧
    (t.e = true → t.flag .m = true ∧ t.flag .x = true ∧ t.x = zext (lo s.x) ∧ t.y = zext (lo s.y) ∧
      hi t.sp = 0x01 ∧ lo t.sp = lo s.sp) ∧
    (t.e = false → t.flag .m = s.flag .m ∧ t.flag .x = s.flag .x ∧ t.x = s.x ∧ t.y = s.y ∧ t.sp = s.sp) ∧
    KeepsFlags [.c, .m, .x] s t ∧ KeepsMemory s t ∧
    { t with x := s.x, y := s.y, sp := s.sp, p := s.p, e := s.e, pc := s.pc, cyc := s.cyc } = s

/-- R288 to R295: each single-flag instruction writes its flag and nothing else; NOP writes nothing. That they exist is
decision D14. -/
def Obligations.SingleFlagInstructions : Prop :=
  ∀ (i : Instr) (s : State), i.op ∈ [.clc, .sec, .cli, .sei, .cld, .sed, .clv, .nop] →
    ∃ t, exec i s = .next t ∧ Advanced i s t ∧
    (i.op = .clc → t.flag .c = false ∧ KeepsFlags [.c] s t) ∧ (i.op = .sec → t.flag .c = true ∧ KeepsFlags [.c] s t) ∧
    (i.op = .cli → t.flag .i = false ∧ KeepsFlags [.i] s t) ∧ (i.op = .sei → t.flag .i = true ∧ KeepsFlags [.i] s t) ∧
    (i.op = .cld → t.flag .d = false ∧ KeepsFlags [.d] s t) ∧ (i.op = .sed → t.flag .d = true ∧ KeepsFlags [.d] s t) ∧
    (i.op = .clv → t.flag .v = false ∧ KeepsFlags [.v] s t) ∧ (i.op = .nop → t.p = s.p) ∧
    KeepsMemory s t ∧ { t with p := s.p, pc := s.pc, cyc := s.cyc } = s

/-! ### Jumps, calls, returns, interrupts, special (spec/49_control_special.md, spec/60_exceptions.md) -/

/-- R305: JMP; only the long forms load PBR. The bank is dropped in the short forms by decision D17. -/
def Obligations.JumpsGoToTheTarget : Prop :=
  ∀ (i : Instr) (s : State), i.op = .jmp → ∃ t, exec i s = .next t ∧ t.pc = offsetOf (s.eaOf i) ∧
    (t.pbr = if i.operand.mode ∈ [.alng, .abil] then bankOf (s.eaOf i) else s.pbr) ∧
    t.cyc = s.cyc + s.costOf i ∧ KeepsMemory s t ∧ { t with pbr := s.pbr, pc := s.pc, cyc := s.cyc } = s

/-- R306, R307: JSR and JSL push the offset of their last byte, JSL the bank before it. The push order of JSL is decision D16.
-/
def Obligations.CallsPushTheReturnAddress : Prop :=
  ∀ (i : Instr) (s : State), i.op = .jsr ∨ i.op = .jsl → ∃ t, exec i s = .next t ∧ t.pc = offsetOf (s.eaOf i) ∧
    (i.op = .jsr → t.pbr = s.pbr ∧ Pushed [hi (s.nextPc i - 1), lo (s.nextPc i - 1)] s t) ∧
    (i.op = .jsl → t.pbr = bankOf (s.eaOf i) ∧ Pushed [s.pbr, hi (s.nextPc i - 1), lo (s.nextPc i - 1)] s t) ∧
    t.cyc = s.cyc + s.costOf i ∧
    { t with sp := s.sp, pbr := s.pbr, mem := s.mem, pc := s.pc, cyc := s.cyc } = s

/-- R308, R309: RTS and RTL pull the offset, add 1, and RTL then pulls the bank. That RTL adds 1 is decision D16. -/
def Obligations.ReturnsPullTheReturnAddress : Prop :=
  ∀ (i : Instr) (s : State), i.op = .rts ∨ i.op = .rtl → ∃ t, exec i s = .next t ∧ t.pc = s.pulledValue false + 1 ∧
    (i.op = .rts → t.pbr = s.pbr ∧ t.sp = s.pulledSp 2) ∧ (i.op = .rtl → t.pbr = s.pulledByte 2 ∧ t.sp = s.pulledSp 3) ∧
    t.cyc = s.cyc + s.costOf i ∧ KeepsMemory s t ∧ { t with sp := s.sp, pbr := s.pbr, pc := s.pc, cyc := s.cyc } = s

/-- R306 to R309: a call and its return come back to the instruction after the call, with the bank and SP as before, where the
bytes pushed land in RAM, each at an index of its own. The order of RTL is decision D16, SP's D10. -/
def Obligations.CallThenReturn : Prop :=
  (∀ (i : Instr) (s t u : State), i.op = .jsr → s.slotsInRam 2 → exec i s = .next t → exec .rts t = .next u →
    u.pc = s.nextPc i ∧ u.pbr = s.pbr ∧ u.sp = s.sp) ∧
  (∀ (i : Instr) (s t u : State), i.op = .jsl → s.slotsInRam 3 → exec i s = .next t → exec .rtl t = .next u →
    u.pc = s.nextPc i ∧ u.pbr = s.pbr ∧ u.sp = s.sp)

/-- R310, R311, R332, R333: BRK and COP take their exception: the frame, I and D, the bank and the vector. Push order and
signature byte are decision D15, the pushed byte D33. -/
def Obligations.SoftwareInterruptsTakeTheirException : Prop :=
  ∀ (i : Instr) (s : State), i.op = .brk ∨ i.op = .cop → ∃ t, exec i s = .next t ∧
    Pushed ((if s.e then [] else [s.pbr]) ++ [hi (s.pc + 2), lo (s.pc + 2), s.p]) s t ∧
    t.flag .i = true ∧ t.flag .d = false ∧ KeepsFlags [.i, .d] s t ∧ t.pbr = 0x00 ∧
    (t.pc = t.read16 (if i.op = .brk then (if s.e then 0x00FFFE else 0x00FFE6) else (if s.e then 0x00FFF4 else 0x00FFE4))) ∧
    t.cyc = s.cyc + s.costOf i ∧
    { t with sp := s.sp, pbr := s.pbr, p := s.p, mem := s.mem, pc := s.pc, cyc := s.cyc } = s

/-- R312, R334, R227: RTI restores P through `SetP`, then PC as pulled, then PBR in native mode only. Where SP points is
decision D10 (notes/assumptions/15.md). -/
def Obligations.RtiRestoresTheContext : Prop :=
  ∀ s : State, ∃ t, exec .rti s = .next t ∧ SetsP (s.pulledByte 0) s t ∧
    t.pc = wordOf (s.pulledByte 2) (s.pulledByte 1) ∧ (t.pbr = if s.e then s.pbr else s.pulledByte 3) ∧
    t.sp = s.pulledSp (if s.e then 3 else 4) ∧ t.cyc = s.cyc + s.costOf .rti ∧ KeepsMemory s t ∧
    { t with x := s.x, y := s.y, sp := s.sp, pbr := s.pbr, p := s.p, pc := s.pc, cyc := s.cyc } = s

/-- R333, R334, R368: an RTI in the state that BRK or COP leaves resumes two bytes after the opcode with P and SP as they were,
and the bank too in native mode; in emulation mode the bank is lost. The bytes of the frame land in RAM, each at an index of
its own. R368 is the spec's own derivation; Inv's part about memory is the model's. -/
def Obligations.InterruptThenReturn : Prop :=
  ∀ (i : Instr) (s t u : State), i.op = .brk ∨ i.op = .cop → s.Inv → s.slotsInRam (if s.e then 3 else 4) → exec i s = .next t →
    exec .rti t = .next u →
    u.pc = s.pc + 2 ∧ u.p = s.p ∧ u.sp = s.sp ∧ (u.pbr = if s.e then 0x00 else s.pbr) ∧
    { u with pc := s.pc, p := s.p, sp := s.sp, pbr := s.pbr, cyc := s.cyc, mem := s.mem } = s

/-- R313, R314: WAI and STP stay at their opcode while INTSIG is 0 and fall through when it is 1; nothing else changes but CYC.
No entry sequence and no acknowledgement is decision D23. -/
def Obligations.WaitsPollTheSignal : Prop :=
  ∀ (i : Instr) (s : State), i.op = .wai ∨ i.op = .stp → ∃ t, exec i s = .next t ∧
    (t.pc = if s.intsig then s.pc + 1 else s.pc) ∧ t.cyc = s.cyc + s.costOf i ∧ KeepsMemory s t ∧
    { t with pc := s.pc, cyc := s.cyc } = s

/-- R317, R39: WDM sets HALTED exactly when its operand is in WDM_STOP, and does nothing else. WDM_STOP is a parameter by
decision D24. -/
def Obligations.WdmHaltsOnAStopCode : Prop :=
  ∀ (b : Byte) (s : State), ∃ t, exec (.wdm b) s = .next t ∧ Advanced (.wdm b) s t ∧
    (b ∈ s.cfg.wdmStop → t.halted = true) ∧ (b ∉ s.cfg.wdmStop → t.halted = s.halted) ∧ KeepsMemory s t ∧
    { t with halted := s.halted, pc := s.pc, cyc := s.cyc } = s
end

