-- ==== Sys2Proof/Laws/Bits.lean ====
section
/-! SUPPORT. Laws of byte, word and address composition. -/

namespace Sys2Proof.Machine

/-! ### As numbers -/

theorem wordOf_toNat (h l : Byte) : (wordOf h l).toNat = 2 ^ 8 * h.toNat + l.toNat := by
  simp only [wordOf, BitVec.toNat_append]
  rw [← Nat.shiftLeft_add_eq_or_of_lt l.isLt, Nat.shiftLeft_eq]
  omega

theorem addrOf_toNat (b : Byte) (o : Word) : (addrOf b o).toNat = 2 ^ 16 * b.toNat + o.toNat := by
  simp only [addrOf, BitVec.toNat_append]
  rw [← Nat.shiftLeft_add_eq_or_of_lt o.isLt, Nat.shiftLeft_eq]
  omega

theorem lo_toNat (v : Word) : (lo v).toNat = v.toNat % 2 ^ 8 := by simp [lo, BitVec.extractLsb'_toNat]

theorem hi_toNat (v : Word) : (hi v).toNat = v.toNat / 2 ^ 8 := by
  have := v.isLt
  simp only [hi, BitVec.extractLsb'_toNat, Nat.shiftRight_eq_div_pow]
  omega

theorem bankOf_toNat (a : Addr) : (bankOf a).toNat = a.toNat / 2 ^ 16 := by
  have := a.isLt
  simp only [bankOf, BitVec.extractLsb'_toNat, Nat.shiftRight_eq_div_pow]
  omega

theorem offsetOf_toNat (a : Addr) : (offsetOf a).toNat = a.toNat % 2 ^ 16 := by
  simp [offsetOf, BitVec.extractLsb'_toNat]

theorem zext_toNat (b : Byte) : (zext b).toNat = b.toNat := by
  have := b.isLt
  simp only [zext, BitVec.toNat_setWidth]
  omega

theorem clip_toNat (n : Bool) (v : Word) : (clip n v).toNat = v.toNat % 2 ^ (if n then 8 else 16) := by
  have := v.isLt
  cases n
  · simp only [clip, Bool.false_eq_true, if_false]
    omega
  · simp only [clip, if_true, zext_toNat, lo_toNat]

theorem addrOf_zero_toNat (o : Word) : (addrOf 0x00 o).toNat = o.toNat := by
  rw [addrOf_toNat]
  simp

/-! ### Parts and wholes -/

@[simp] theorem lo_wordOf (h l : Byte) : lo (wordOf h l) = l := by
  apply BitVec.eq_of_toNat_eq
  have := l.isLt
  rw [lo_toNat, wordOf_toNat]
  omega

@[simp] theorem hi_wordOf (h l : Byte) : hi (wordOf h l) = h := by
  apply BitVec.eq_of_toNat_eq
  have := l.isLt
  rw [hi_toNat, wordOf_toNat]
  omega

@[simp] theorem wordOf_hi_lo (v : Word) : wordOf (hi v) (lo v) = v := by
  apply BitVec.eq_of_toNat_eq
  rw [wordOf_toNat, hi_toNat, lo_toNat]
  omega

@[simp] theorem bankOf_addrOf (b : Byte) (o : Word) : bankOf (addrOf b o) = b := by
  apply BitVec.eq_of_toNat_eq
  have := o.isLt
  rw [bankOf_toNat, addrOf_toNat]
  omega

@[simp] theorem offsetOf_addrOf (b : Byte) (o : Word) : offsetOf (addrOf b o) = o := by
  apply BitVec.eq_of_toNat_eq
  have := o.isLt
  rw [offsetOf_toNat, addrOf_toNat]
  omega

@[simp] theorem addrOf_bankOf_offsetOf (a : Addr) : addrOf (bankOf a) (offsetOf a) = a := by
  apply BitVec.eq_of_toNat_eq
  rw [addrOf_toNat, bankOf_toNat, offsetOf_toNat]
  omega

@[simp] theorem lo_zext (b : Byte) : lo (zext b) = b := by
  apply BitVec.eq_of_toNat_eq
  have := b.isLt
  rw [lo_toNat, zext_toNat]
  omega

@[simp] theorem hi_zext (b : Byte) : hi (zext b) = 0x00 := by
  apply BitVec.eq_of_toNat_eq
  have := b.isLt
  rw [hi_toNat, zext_toNat]
  simp only [BitVec.ofNat_eq_ofNat, BitVec.toNat_ofNat]
  omega

/-- A word with a zero high byte is its low byte extended. -/
theorem zext_lo_of_hi {v : Word} (h : hi v = 0x00) : zext (lo v) = v := by
  apply BitVec.eq_of_toNat_eq
  have h := congrArg BitVec.toNat h
  have := v.isLt
  rw [hi_toNat] at h
  rw [zext_toNat, lo_toNat]
  simp only [BitVec.ofNat_eq_ofNat, BitVec.toNat_ofNat] at h
  omega

/-! ### A value at a width -/

@[simp] theorem clip_true (v : Word) : clip true v = zext (lo v) := rfl
@[simp] theorem clip_false (v : Word) : clip false v = v := rfl

@[simp] theorem clip_clip (n : Bool) (v : Word) : clip n (clip n v) = clip n v := by cases n <;> simp

@[simp] theorem signBit_clip (n : Bool) (v : Word) : signBit n (clip n v) = signBit n v := by
  cases n
  · rfl
  · simp [signBit, zext, lo]

theorem isZero_iff (n : Bool) (v : Word) : isZero n v = true ↔ (clip n v).toNat = 0 := by
  rw [isZero, beq_iff_eq, ← BitVec.toNat_inj]
  rfl

/-- The top bit, as a comparison. -/
theorem signBit_iff (n : Bool) (v : Word) :
    signBit n v = true ↔ 2 ^ ((if n then 8 else 16) - 1) ≤ (clip n v).toNat := by
  have := v.isLt
  rw [clip_toNat]
  cases n <;>
    simp only [signBit, Bool.false_eq_true, if_false, if_true, BitVec.getLsbD, Nat.testBit_eq_decide_div_mod_eq, decide_eq_true_eq] <;>
    omega

/-- One bit of a byte with bit `i` written. -/
theorem getLsbD_setBit (p : Byte) (i j : Nat) (b : Bool) (hi : i < 8) :
    (setBit p i b).getLsbD j = if j = i then b else p.getLsbD j := by
  by_cases hj : j < 8
  · interval_cases i <;> interval_cases j <;> cases b <;> simp [setBit]
  · rw [BitVec.getLsbD_of_ge _ _ (by omega), BitVec.getLsbD_of_ge _ _ (by omega)]
    split
    · omega
    · rfl

end Sys2Proof.Machine
end

