-- ==== Sys2Proof/Laws/State.lean ====
section
/-! SUPPORT. One lemma per field per update of State: what each named operation leaves alone, and what the plain record updates write. -/

namespace Sys2Proof.Machine.State

variable (s : State)

@[simp] theorem setFlag_a (f : Flag) (b : Bool) : (s.setFlag f b).a = s.a := rfl
@[simp] theorem setFlag_x (f : Flag) (b : Bool) : (s.setFlag f b).x = s.x := rfl
@[simp] theorem setFlag_y (f : Flag) (b : Bool) : (s.setFlag f b).y = s.y := rfl
@[simp] theorem setFlag_sp (f : Flag) (b : Bool) : (s.setFlag f b).sp = s.sp := rfl
@[simp] theorem setFlag_dp (f : Flag) (b : Bool) : (s.setFlag f b).dp = s.dp := rfl
@[simp] theorem setFlag_pc (f : Flag) (b : Bool) : (s.setFlag f b).pc = s.pc := rfl
@[simp] theorem setFlag_pbr (f : Flag) (b : Bool) : (s.setFlag f b).pbr = s.pbr := rfl
@[simp] theorem setFlag_dbr (f : Flag) (b : Bool) : (s.setFlag f b).dbr = s.dbr := rfl
@[simp] theorem setFlag_e (f : Flag) (b : Bool) : (s.setFlag f b).e = s.e := rfl
@[simp] theorem setFlag_cyc (f : Flag) (b : Bool) : (s.setFlag f b).cyc = s.cyc := rfl
@[simp] theorem setFlag_halted (f : Flag) (b : Bool) : (s.setFlag f b).halted = s.halted := rfl
@[simp] theorem setFlag_mem (f : Flag) (b : Bool) : (s.setFlag f b).mem = s.mem := rfl
@[simp] theorem setFlag_intsig (f : Flag) (b : Bool) : (s.setFlag f b).intsig = s.intsig := rfl
@[simp] theorem setFlag_host (f : Flag) (b : Bool) : (s.setFlag f b).host = s.host := rfl
@[simp] theorem setFlag_cfg (f : Flag) (b : Bool) : (s.setFlag f b).cfg = s.cfg := rfl

@[simp] theorem setNZ_a (n : Bool) (v : Word) : (s.setNZ n v).a = s.a := rfl
@[simp] theorem setNZ_x (n : Bool) (v : Word) : (s.setNZ n v).x = s.x := rfl
@[simp] theorem setNZ_y (n : Bool) (v : Word) : (s.setNZ n v).y = s.y := rfl
@[simp] theorem setNZ_sp (n : Bool) (v : Word) : (s.setNZ n v).sp = s.sp := rfl
@[simp] theorem setNZ_dp (n : Bool) (v : Word) : (s.setNZ n v).dp = s.dp := rfl
@[simp] theorem setNZ_pc (n : Bool) (v : Word) : (s.setNZ n v).pc = s.pc := rfl
@[simp] theorem setNZ_pbr (n : Bool) (v : Word) : (s.setNZ n v).pbr = s.pbr := rfl
@[simp] theorem setNZ_dbr (n : Bool) (v : Word) : (s.setNZ n v).dbr = s.dbr := rfl
@[simp] theorem setNZ_e (n : Bool) (v : Word) : (s.setNZ n v).e = s.e := rfl
@[simp] theorem setNZ_cyc (n : Bool) (v : Word) : (s.setNZ n v).cyc = s.cyc := rfl
@[simp] theorem setNZ_halted (n : Bool) (v : Word) : (s.setNZ n v).halted = s.halted := rfl
@[simp] theorem setNZ_mem (n : Bool) (v : Word) : (s.setNZ n v).mem = s.mem := rfl
@[simp] theorem setNZ_intsig (n : Bool) (v : Word) : (s.setNZ n v).intsig = s.intsig := rfl
@[simp] theorem setNZ_host (n : Bool) (v : Word) : (s.setNZ n v).host = s.host := rfl
@[simp] theorem setNZ_cfg (n : Bool) (v : Word) : (s.setNZ n v).cfg = s.cfg := rfl

@[simp] theorem setP_a (v : Byte) : (s.setP v).a = s.a := rfl
@[simp] theorem setP_sp (v : Byte) : (s.setP v).sp = s.sp := rfl
@[simp] theorem setP_dp (v : Byte) : (s.setP v).dp = s.dp := rfl
@[simp] theorem setP_pc (v : Byte) : (s.setP v).pc = s.pc := rfl
@[simp] theorem setP_pbr (v : Byte) : (s.setP v).pbr = s.pbr := rfl
@[simp] theorem setP_dbr (v : Byte) : (s.setP v).dbr = s.dbr := rfl
@[simp] theorem setP_e (v : Byte) : (s.setP v).e = s.e := rfl
@[simp] theorem setP_cyc (v : Byte) : (s.setP v).cyc = s.cyc := rfl
@[simp] theorem setP_halted (v : Byte) : (s.setP v).halted = s.halted := rfl
@[simp] theorem setP_mem (v : Byte) : (s.setP v).mem = s.mem := rfl
@[simp] theorem setP_intsig (v : Byte) : (s.setP v).intsig = s.intsig := rfl
@[simp] theorem setP_host (v : Byte) : (s.setP v).host = s.host := rfl
@[simp] theorem setP_cfg (v : Byte) : (s.setP v).cfg = s.cfg := rfl

@[simp] theorem writeA_x (n : Bool) (v : Word) : (s.writeA n v).x = s.x := rfl
@[simp] theorem writeA_y (n : Bool) (v : Word) : (s.writeA n v).y = s.y := rfl
@[simp] theorem writeA_sp (n : Bool) (v : Word) : (s.writeA n v).sp = s.sp := rfl
@[simp] theorem writeA_dp (n : Bool) (v : Word) : (s.writeA n v).dp = s.dp := rfl
@[simp] theorem writeA_pc (n : Bool) (v : Word) : (s.writeA n v).pc = s.pc := rfl
@[simp] theorem writeA_pbr (n : Bool) (v : Word) : (s.writeA n v).pbr = s.pbr := rfl
@[simp] theorem writeA_dbr (n : Bool) (v : Word) : (s.writeA n v).dbr = s.dbr := rfl
@[simp] theorem writeA_p (n : Bool) (v : Word) : (s.writeA n v).p = s.p := rfl
@[simp] theorem writeA_e (n : Bool) (v : Word) : (s.writeA n v).e = s.e := rfl
@[simp] theorem writeA_cyc (n : Bool) (v : Word) : (s.writeA n v).cyc = s.cyc := rfl
@[simp] theorem writeA_halted (n : Bool) (v : Word) : (s.writeA n v).halted = s.halted := rfl
@[simp] theorem writeA_mem (n : Bool) (v : Word) : (s.writeA n v).mem = s.mem := rfl
@[simp] theorem writeA_intsig (n : Bool) (v : Word) : (s.writeA n v).intsig = s.intsig := rfl
@[simp] theorem writeA_host (n : Bool) (v : Word) : (s.writeA n v).host = s.host := rfl
@[simp] theorem writeA_cfg (n : Bool) (v : Word) : (s.writeA n v).cfg = s.cfg := rfl

@[simp] theorem writeX_a (n : Bool) (v : Word) : (s.writeX n v).a = s.a := rfl
@[simp] theorem writeX_y (n : Bool) (v : Word) : (s.writeX n v).y = s.y := rfl
@[simp] theorem writeX_sp (n : Bool) (v : Word) : (s.writeX n v).sp = s.sp := rfl
@[simp] theorem writeX_dp (n : Bool) (v : Word) : (s.writeX n v).dp = s.dp := rfl
@[simp] theorem writeX_pc (n : Bool) (v : Word) : (s.writeX n v).pc = s.pc := rfl
@[simp] theorem writeX_pbr (n : Bool) (v : Word) : (s.writeX n v).pbr = s.pbr := rfl
@[simp] theorem writeX_dbr (n : Bool) (v : Word) : (s.writeX n v).dbr = s.dbr := rfl
@[simp] theorem writeX_p (n : Bool) (v : Word) : (s.writeX n v).p = s.p := rfl
@[simp] theorem writeX_e (n : Bool) (v : Word) : (s.writeX n v).e = s.e := rfl
@[simp] theorem writeX_cyc (n : Bool) (v : Word) : (s.writeX n v).cyc = s.cyc := rfl
@[simp] theorem writeX_halted (n : Bool) (v : Word) : (s.writeX n v).halted = s.halted := rfl
@[simp] theorem writeX_mem (n : Bool) (v : Word) : (s.writeX n v).mem = s.mem := rfl
@[simp] theorem writeX_intsig (n : Bool) (v : Word) : (s.writeX n v).intsig = s.intsig := rfl
@[simp] theorem writeX_host (n : Bool) (v : Word) : (s.writeX n v).host = s.host := rfl
@[simp] theorem writeX_cfg (n : Bool) (v : Word) : (s.writeX n v).cfg = s.cfg := rfl

@[simp] theorem writeY_a (n : Bool) (v : Word) : (s.writeY n v).a = s.a := rfl
@[simp] theorem writeY_x (n : Bool) (v : Word) : (s.writeY n v).x = s.x := rfl
@[simp] theorem writeY_sp (n : Bool) (v : Word) : (s.writeY n v).sp = s.sp := rfl
@[simp] theorem writeY_dp (n : Bool) (v : Word) : (s.writeY n v).dp = s.dp := rfl
@[simp] theorem writeY_pc (n : Bool) (v : Word) : (s.writeY n v).pc = s.pc := rfl
@[simp] theorem writeY_pbr (n : Bool) (v : Word) : (s.writeY n v).pbr = s.pbr := rfl
@[simp] theorem writeY_dbr (n : Bool) (v : Word) : (s.writeY n v).dbr = s.dbr := rfl
@[simp] theorem writeY_p (n : Bool) (v : Word) : (s.writeY n v).p = s.p := rfl
@[simp] theorem writeY_e (n : Bool) (v : Word) : (s.writeY n v).e = s.e := rfl
@[simp] theorem writeY_cyc (n : Bool) (v : Word) : (s.writeY n v).cyc = s.cyc := rfl
@[simp] theorem writeY_halted (n : Bool) (v : Word) : (s.writeY n v).halted = s.halted := rfl
@[simp] theorem writeY_mem (n : Bool) (v : Word) : (s.writeY n v).mem = s.mem := rfl
@[simp] theorem writeY_intsig (n : Bool) (v : Word) : (s.writeY n v).intsig = s.intsig := rfl
@[simp] theorem writeY_host (n : Bool) (v : Word) : (s.writeY n v).host = s.host := rfl
@[simp] theorem writeY_cfg (n : Bool) (v : Word) : (s.writeY n v).cfg = s.cfg := rfl

@[simp] theorem setAddFlags_a (n : Bool) (r : AddResult) : (s.setAddFlags n r).a = s.a := rfl
@[simp] theorem setAddFlags_x (n : Bool) (r : AddResult) : (s.setAddFlags n r).x = s.x := rfl
@[simp] theorem setAddFlags_y (n : Bool) (r : AddResult) : (s.setAddFlags n r).y = s.y := rfl
@[simp] theorem setAddFlags_sp (n : Bool) (r : AddResult) : (s.setAddFlags n r).sp = s.sp := rfl
@[simp] theorem setAddFlags_dp (n : Bool) (r : AddResult) : (s.setAddFlags n r).dp = s.dp := rfl
@[simp] theorem setAddFlags_pc (n : Bool) (r : AddResult) : (s.setAddFlags n r).pc = s.pc := rfl
@[simp] theorem setAddFlags_pbr (n : Bool) (r : AddResult) : (s.setAddFlags n r).pbr = s.pbr := rfl
@[simp] theorem setAddFlags_dbr (n : Bool) (r : AddResult) : (s.setAddFlags n r).dbr = s.dbr := rfl
@[simp] theorem setAddFlags_e (n : Bool) (r : AddResult) : (s.setAddFlags n r).e = s.e := rfl
@[simp] theorem setAddFlags_cyc (n : Bool) (r : AddResult) : (s.setAddFlags n r).cyc = s.cyc := rfl
@[simp] theorem setAddFlags_halted (n : Bool) (r : AddResult) : (s.setAddFlags n r).halted = s.halted := rfl
@[simp] theorem setAddFlags_mem (n : Bool) (r : AddResult) : (s.setAddFlags n r).mem = s.mem := rfl
@[simp] theorem setAddFlags_intsig (n : Bool) (r : AddResult) : (s.setAddFlags n r).intsig = s.intsig := rfl
@[simp] theorem setAddFlags_host (n : Bool) (r : AddResult) : (s.setAddFlags n r).host = s.host := rfl
@[simp] theorem setAddFlags_cfg (n : Bool) (r : AddResult) : (s.setAddFlags n r).cfg = s.cfg := rfl

@[simp] theorem setRmwFlags_a (n : Bool) (r : RmwResult) : (s.setRmwFlags n r).a = s.a := rfl
@[simp] theorem setRmwFlags_x (n : Bool) (r : RmwResult) : (s.setRmwFlags n r).x = s.x := rfl
@[simp] theorem setRmwFlags_y (n : Bool) (r : RmwResult) : (s.setRmwFlags n r).y = s.y := rfl
@[simp] theorem setRmwFlags_sp (n : Bool) (r : RmwResult) : (s.setRmwFlags n r).sp = s.sp := rfl
@[simp] theorem setRmwFlags_dp (n : Bool) (r : RmwResult) : (s.setRmwFlags n r).dp = s.dp := rfl
@[simp] theorem setRmwFlags_pc (n : Bool) (r : RmwResult) : (s.setRmwFlags n r).pc = s.pc := rfl
@[simp] theorem setRmwFlags_pbr (n : Bool) (r : RmwResult) : (s.setRmwFlags n r).pbr = s.pbr := rfl
@[simp] theorem setRmwFlags_dbr (n : Bool) (r : RmwResult) : (s.setRmwFlags n r).dbr = s.dbr := rfl
@[simp] theorem setRmwFlags_e (n : Bool) (r : RmwResult) : (s.setRmwFlags n r).e = s.e := rfl
@[simp] theorem setRmwFlags_cyc (n : Bool) (r : RmwResult) : (s.setRmwFlags n r).cyc = s.cyc := rfl
@[simp] theorem setRmwFlags_halted (n : Bool) (r : RmwResult) : (s.setRmwFlags n r).halted = s.halted := rfl
@[simp] theorem setRmwFlags_mem (n : Bool) (r : RmwResult) : (s.setRmwFlags n r).mem = s.mem := rfl
@[simp] theorem setRmwFlags_intsig (n : Bool) (r : RmwResult) : (s.setRmwFlags n r).intsig = s.intsig := rfl
@[simp] theorem setRmwFlags_host (n : Bool) (r : RmwResult) : (s.setRmwFlags n r).host = s.host := rfl
@[simp] theorem setRmwFlags_cfg (n : Bool) (r : RmwResult) : (s.setRmwFlags n r).cfg = s.cfg := rfl

@[simp] theorem compare_a (n : Bool) (r d : Word) : (s.compare n r d).a = s.a := rfl
@[simp] theorem compare_x (n : Bool) (r d : Word) : (s.compare n r d).x = s.x := rfl
@[simp] theorem compare_y (n : Bool) (r d : Word) : (s.compare n r d).y = s.y := rfl
@[simp] theorem compare_sp (n : Bool) (r d : Word) : (s.compare n r d).sp = s.sp := rfl
@[simp] theorem compare_dp (n : Bool) (r d : Word) : (s.compare n r d).dp = s.dp := rfl
@[simp] theorem compare_pc (n : Bool) (r d : Word) : (s.compare n r d).pc = s.pc := rfl
@[simp] theorem compare_pbr (n : Bool) (r d : Word) : (s.compare n r d).pbr = s.pbr := rfl
@[simp] theorem compare_dbr (n : Bool) (r d : Word) : (s.compare n r d).dbr = s.dbr := rfl
@[simp] theorem compare_e (n : Bool) (r d : Word) : (s.compare n r d).e = s.e := rfl
@[simp] theorem compare_cyc (n : Bool) (r d : Word) : (s.compare n r d).cyc = s.cyc := rfl
@[simp] theorem compare_halted (n : Bool) (r d : Word) : (s.compare n r d).halted = s.halted := rfl
@[simp] theorem compare_mem (n : Bool) (r d : Word) : (s.compare n r d).mem = s.mem := rfl
@[simp] theorem compare_intsig (n : Bool) (r d : Word) : (s.compare n r d).intsig = s.intsig := rfl
@[simp] theorem compare_host (n : Bool) (r d : Word) : (s.compare n r d).host = s.host := rfl
@[simp] theorem compare_cfg (n : Bool) (r d : Word) : (s.compare n r d).cfg = s.cfg := rfl

@[simp] theorem writeByte_a (a : Addr) (b : Byte) : (s.writeByte a b).a = s.a := rfl
@[simp] theorem writeByte_x (a : Addr) (b : Byte) : (s.writeByte a b).x = s.x := rfl
@[simp] theorem writeByte_y (a : Addr) (b : Byte) : (s.writeByte a b).y = s.y := rfl
@[simp] theorem writeByte_sp (a : Addr) (b : Byte) : (s.writeByte a b).sp = s.sp := rfl
@[simp] theorem writeByte_dp (a : Addr) (b : Byte) : (s.writeByte a b).dp = s.dp := rfl
@[simp] theorem writeByte_pc (a : Addr) (b : Byte) : (s.writeByte a b).pc = s.pc := rfl
@[simp] theorem writeByte_pbr (a : Addr) (b : Byte) : (s.writeByte a b).pbr = s.pbr := rfl
@[simp] theorem writeByte_dbr (a : Addr) (b : Byte) : (s.writeByte a b).dbr = s.dbr := rfl
@[simp] theorem writeByte_p (a : Addr) (b : Byte) : (s.writeByte a b).p = s.p := rfl
@[simp] theorem writeByte_e (a : Addr) (b : Byte) : (s.writeByte a b).e = s.e := rfl
@[simp] theorem writeByte_cyc (a : Addr) (b : Byte) : (s.writeByte a b).cyc = s.cyc := rfl
@[simp] theorem writeByte_halted (a : Addr) (b : Byte) : (s.writeByte a b).halted = s.halted := rfl
@[simp] theorem writeByte_intsig (a : Addr) (b : Byte) : (s.writeByte a b).intsig = s.intsig := rfl
@[simp] theorem writeByte_host (a : Addr) (b : Byte) : (s.writeByte a b).host = s.host := rfl
@[simp] theorem writeByte_cfg (a : Addr) (b : Byte) : (s.writeByte a b).cfg = s.cfg := rfl

@[simp] theorem write16_a (a : Addr) (v : Word) : (s.write16 a v).a = s.a := rfl
@[simp] theorem write16_x (a : Addr) (v : Word) : (s.write16 a v).x = s.x := rfl
@[simp] theorem write16_y (a : Addr) (v : Word) : (s.write16 a v).y = s.y := rfl
@[simp] theorem write16_sp (a : Addr) (v : Word) : (s.write16 a v).sp = s.sp := rfl
@[simp] theorem write16_dp (a : Addr) (v : Word) : (s.write16 a v).dp = s.dp := rfl
@[simp] theorem write16_pc (a : Addr) (v : Word) : (s.write16 a v).pc = s.pc := rfl
@[simp] theorem write16_pbr (a : Addr) (v : Word) : (s.write16 a v).pbr = s.pbr := rfl
@[simp] theorem write16_dbr (a : Addr) (v : Word) : (s.write16 a v).dbr = s.dbr := rfl
@[simp] theorem write16_p (a : Addr) (v : Word) : (s.write16 a v).p = s.p := rfl
@[simp] theorem write16_e (a : Addr) (v : Word) : (s.write16 a v).e = s.e := rfl
@[simp] theorem write16_cyc (a : Addr) (v : Word) : (s.write16 a v).cyc = s.cyc := rfl
@[simp] theorem write16_halted (a : Addr) (v : Word) : (s.write16 a v).halted = s.halted := rfl
@[simp] theorem write16_intsig (a : Addr) (v : Word) : (s.write16 a v).intsig = s.intsig := rfl
@[simp] theorem write16_host (a : Addr) (v : Word) : (s.write16 a v).host = s.host := rfl
@[simp] theorem write16_cfg (a : Addr) (v : Word) : (s.write16 a v).cfg = s.cfg := rfl

@[simp] theorem writeSized_a (n : Bool) (a : Addr) (v : Word) : (s.writeSized n a v).a = s.a := rfl
@[simp] theorem writeSized_x (n : Bool) (a : Addr) (v : Word) : (s.writeSized n a v).x = s.x := rfl
@[simp] theorem writeSized_y (n : Bool) (a : Addr) (v : Word) : (s.writeSized n a v).y = s.y := rfl
@[simp] theorem writeSized_sp (n : Bool) (a : Addr) (v : Word) : (s.writeSized n a v).sp = s.sp := rfl
@[simp] theorem writeSized_dp (n : Bool) (a : Addr) (v : Word) : (s.writeSized n a v).dp = s.dp := rfl
@[simp] theorem writeSized_pc (n : Bool) (a : Addr) (v : Word) : (s.writeSized n a v).pc = s.pc := rfl
@[simp] theorem writeSized_pbr (n : Bool) (a : Addr) (v : Word) : (s.writeSized n a v).pbr = s.pbr := rfl
@[simp] theorem writeSized_dbr (n : Bool) (a : Addr) (v : Word) : (s.writeSized n a v).dbr = s.dbr := rfl
@[simp] theorem writeSized_p (n : Bool) (a : Addr) (v : Word) : (s.writeSized n a v).p = s.p := rfl
@[simp] theorem writeSized_e (n : Bool) (a : Addr) (v : Word) : (s.writeSized n a v).e = s.e := rfl
@[simp] theorem writeSized_cyc (n : Bool) (a : Addr) (v : Word) : (s.writeSized n a v).cyc = s.cyc := rfl
@[simp] theorem writeSized_halted (n : Bool) (a : Addr) (v : Word) : (s.writeSized n a v).halted = s.halted := rfl
@[simp] theorem writeSized_intsig (n : Bool) (a : Addr) (v : Word) : (s.writeSized n a v).intsig = s.intsig := rfl
@[simp] theorem writeSized_host (n : Bool) (a : Addr) (v : Word) : (s.writeSized n a v).host = s.host := rfl
@[simp] theorem writeSized_cfg (n : Bool) (a : Addr) (v : Word) : (s.writeSized n a v).cfg = s.cfg := rfl

@[simp] theorem push8_a (v : Byte) : (s.push8 v).a = s.a := rfl
@[simp] theorem push8_x (v : Byte) : (s.push8 v).x = s.x := rfl
@[simp] theorem push8_y (v : Byte) : (s.push8 v).y = s.y := rfl
@[simp] theorem push8_dp (v : Byte) : (s.push8 v).dp = s.dp := rfl
@[simp] theorem push8_pc (v : Byte) : (s.push8 v).pc = s.pc := rfl
@[simp] theorem push8_pbr (v : Byte) : (s.push8 v).pbr = s.pbr := rfl
@[simp] theorem push8_dbr (v : Byte) : (s.push8 v).dbr = s.dbr := rfl
@[simp] theorem push8_p (v : Byte) : (s.push8 v).p = s.p := rfl
@[simp] theorem push8_e (v : Byte) : (s.push8 v).e = s.e := rfl
@[simp] theorem push8_cyc (v : Byte) : (s.push8 v).cyc = s.cyc := rfl
@[simp] theorem push8_halted (v : Byte) : (s.push8 v).halted = s.halted := rfl
@[simp] theorem push8_intsig (v : Byte) : (s.push8 v).intsig = s.intsig := rfl
@[simp] theorem push8_host (v : Byte) : (s.push8 v).host = s.host := rfl
@[simp] theorem push8_cfg (v : Byte) : (s.push8 v).cfg = s.cfg := rfl

@[simp] theorem push16_a (v : Word) : (s.push16 v).a = s.a := rfl
@[simp] theorem push16_x (v : Word) : (s.push16 v).x = s.x := rfl
@[simp] theorem push16_y (v : Word) : (s.push16 v).y = s.y := rfl
@[simp] theorem push16_dp (v : Word) : (s.push16 v).dp = s.dp := rfl
@[simp] theorem push16_pc (v : Word) : (s.push16 v).pc = s.pc := rfl
@[simp] theorem push16_pbr (v : Word) : (s.push16 v).pbr = s.pbr := rfl
@[simp] theorem push16_dbr (v : Word) : (s.push16 v).dbr = s.dbr := rfl
@[simp] theorem push16_p (v : Word) : (s.push16 v).p = s.p := rfl
@[simp] theorem push16_e (v : Word) : (s.push16 v).e = s.e := rfl
@[simp] theorem push16_cyc (v : Word) : (s.push16 v).cyc = s.cyc := rfl
@[simp] theorem push16_halted (v : Word) : (s.push16 v).halted = s.halted := rfl
@[simp] theorem push16_intsig (v : Word) : (s.push16 v).intsig = s.intsig := rfl
@[simp] theorem push16_host (v : Word) : (s.push16 v).host = s.host := rfl
@[simp] theorem push16_cfg (v : Word) : (s.push16 v).cfg = s.cfg := rfl

@[simp] theorem pushSized_a (n : Bool) (v : Word) : (s.pushSized n v).a = s.a := by cases n <;> rfl
@[simp] theorem pushSized_x (n : Bool) (v : Word) : (s.pushSized n v).x = s.x := by cases n <;> rfl
@[simp] theorem pushSized_y (n : Bool) (v : Word) : (s.pushSized n v).y = s.y := by cases n <;> rfl
@[simp] theorem pushSized_dp (n : Bool) (v : Word) : (s.pushSized n v).dp = s.dp := by cases n <;> rfl
@[simp] theorem pushSized_pc (n : Bool) (v : Word) : (s.pushSized n v).pc = s.pc := by cases n <;> rfl
@[simp] theorem pushSized_pbr (n : Bool) (v : Word) : (s.pushSized n v).pbr = s.pbr := by cases n <;> rfl
@[simp] theorem pushSized_dbr (n : Bool) (v : Word) : (s.pushSized n v).dbr = s.dbr := by cases n <;> rfl
@[simp] theorem pushSized_p (n : Bool) (v : Word) : (s.pushSized n v).p = s.p := by cases n <;> rfl
@[simp] theorem pushSized_e (n : Bool) (v : Word) : (s.pushSized n v).e = s.e := by cases n <;> rfl
@[simp] theorem pushSized_cyc (n : Bool) (v : Word) : (s.pushSized n v).cyc = s.cyc := by cases n <;> rfl
@[simp] theorem pushSized_halted (n : Bool) (v : Word) : (s.pushSized n v).halted = s.halted := by cases n <;> rfl
@[simp] theorem pushSized_intsig (n : Bool) (v : Word) : (s.pushSized n v).intsig = s.intsig := by cases n <;> rfl
@[simp] theorem pushSized_host (n : Bool) (v : Word) : (s.pushSized n v).host = s.host := by cases n <;> rfl
@[simp] theorem pushSized_cfg (n : Bool) (v : Word) : (s.pushSized n v).cfg = s.cfg := by cases n <;> rfl

@[simp] theorem popped_a : (s.popped).a = s.a := rfl
@[simp] theorem popped_x : (s.popped).x = s.x := rfl
@[simp] theorem popped_y : (s.popped).y = s.y := rfl
@[simp] theorem popped_dp : (s.popped).dp = s.dp := rfl
@[simp] theorem popped_pc : (s.popped).pc = s.pc := rfl
@[simp] theorem popped_pbr : (s.popped).pbr = s.pbr := rfl
@[simp] theorem popped_dbr : (s.popped).dbr = s.dbr := rfl
@[simp] theorem popped_p : (s.popped).p = s.p := rfl
@[simp] theorem popped_e : (s.popped).e = s.e := rfl
@[simp] theorem popped_cyc : (s.popped).cyc = s.cyc := rfl
@[simp] theorem popped_halted : (s.popped).halted = s.halted := rfl
@[simp] theorem popped_mem : (s.popped).mem = s.mem := rfl
@[simp] theorem popped_intsig : (s.popped).intsig = s.intsig := rfl
@[simp] theorem popped_host : (s.popped).host = s.host := rfl
@[simp] theorem popped_cfg : (s.popped).cfg = s.cfg := rfl

@[simp] theorem pull8_a : (s.pull8.2).a = s.a := rfl
@[simp] theorem pull8_x : (s.pull8.2).x = s.x := rfl
@[simp] theorem pull8_y : (s.pull8.2).y = s.y := rfl
@[simp] theorem pull8_dp : (s.pull8.2).dp = s.dp := rfl
@[simp] theorem pull8_pc : (s.pull8.2).pc = s.pc := rfl
@[simp] theorem pull8_pbr : (s.pull8.2).pbr = s.pbr := rfl
@[simp] theorem pull8_dbr : (s.pull8.2).dbr = s.dbr := rfl
@[simp] theorem pull8_p : (s.pull8.2).p = s.p := rfl
@[simp] theorem pull8_e : (s.pull8.2).e = s.e := rfl
@[simp] theorem pull8_cyc : (s.pull8.2).cyc = s.cyc := rfl
@[simp] theorem pull8_halted : (s.pull8.2).halted = s.halted := rfl
@[simp] theorem pull8_mem : (s.pull8.2).mem = s.mem := rfl
@[simp] theorem pull8_intsig : (s.pull8.2).intsig = s.intsig := rfl
@[simp] theorem pull8_host : (s.pull8.2).host = s.host := rfl
@[simp] theorem pull8_cfg : (s.pull8.2).cfg = s.cfg := rfl

@[simp] theorem pull16_a : (s.pull16.2).a = s.a := rfl
@[simp] theorem pull16_x : (s.pull16.2).x = s.x := rfl
@[simp] theorem pull16_y : (s.pull16.2).y = s.y := rfl
@[simp] theorem pull16_dp : (s.pull16.2).dp = s.dp := rfl
@[simp] theorem pull16_pc : (s.pull16.2).pc = s.pc := rfl
@[simp] theorem pull16_pbr : (s.pull16.2).pbr = s.pbr := rfl
@[simp] theorem pull16_dbr : (s.pull16.2).dbr = s.dbr := rfl
@[simp] theorem pull16_p : (s.pull16.2).p = s.p := rfl
@[simp] theorem pull16_e : (s.pull16.2).e = s.e := rfl
@[simp] theorem pull16_cyc : (s.pull16.2).cyc = s.cyc := rfl
@[simp] theorem pull16_halted : (s.pull16.2).halted = s.halted := rfl
@[simp] theorem pull16_mem : (s.pull16.2).mem = s.mem := rfl
@[simp] theorem pull16_intsig : (s.pull16.2).intsig = s.intsig := rfl
@[simp] theorem pull16_host : (s.pull16.2).host = s.host := rfl
@[simp] theorem pull16_cfg : (s.pull16.2).cfg = s.cfg := rfl

@[simp] theorem pullSized_a (n : Bool) : ((s.pullSized n).2).a = s.a := by cases n <;> rfl
@[simp] theorem pullSized_x (n : Bool) : ((s.pullSized n).2).x = s.x := by cases n <;> rfl
@[simp] theorem pullSized_y (n : Bool) : ((s.pullSized n).2).y = s.y := by cases n <;> rfl
@[simp] theorem pullSized_dp (n : Bool) : ((s.pullSized n).2).dp = s.dp := by cases n <;> rfl
@[simp] theorem pullSized_pc (n : Bool) : ((s.pullSized n).2).pc = s.pc := by cases n <;> rfl
@[simp] theorem pullSized_pbr (n : Bool) : ((s.pullSized n).2).pbr = s.pbr := by cases n <;> rfl
@[simp] theorem pullSized_dbr (n : Bool) : ((s.pullSized n).2).dbr = s.dbr := by cases n <;> rfl
@[simp] theorem pullSized_p (n : Bool) : ((s.pullSized n).2).p = s.p := by cases n <;> rfl
@[simp] theorem pullSized_e (n : Bool) : ((s.pullSized n).2).e = s.e := by cases n <;> rfl
@[simp] theorem pullSized_cyc (n : Bool) : ((s.pullSized n).2).cyc = s.cyc := by cases n <;> rfl
@[simp] theorem pullSized_halted (n : Bool) : ((s.pullSized n).2).halted = s.halted := by cases n <;> rfl
@[simp] theorem pullSized_mem (n : Bool) : ((s.pullSized n).2).mem = s.mem := by cases n <;> rfl
@[simp] theorem pullSized_intsig (n : Bool) : ((s.pullSized n).2).intsig = s.intsig := by cases n <;> rfl
@[simp] theorem pullSized_host (n : Bool) : ((s.pullSized n).2).host = s.host := by cases n <;> rfl
@[simp] theorem pullSized_cfg (n : Bool) : ((s.pullSized n).2).cfg = s.cfg := by cases n <;> rfl

@[simp] theorem advance_a (op : Op) (o : Operand) : (s.advance op o).a = s.a := rfl
@[simp] theorem advance_x (op : Op) (o : Operand) : (s.advance op o).x = s.x := rfl
@[simp] theorem advance_y (op : Op) (o : Operand) : (s.advance op o).y = s.y := rfl
@[simp] theorem advance_sp (op : Op) (o : Operand) : (s.advance op o).sp = s.sp := rfl
@[simp] theorem advance_dp (op : Op) (o : Operand) : (s.advance op o).dp = s.dp := rfl
@[simp] theorem advance_pbr (op : Op) (o : Operand) : (s.advance op o).pbr = s.pbr := rfl
@[simp] theorem advance_dbr (op : Op) (o : Operand) : (s.advance op o).dbr = s.dbr := rfl
@[simp] theorem advance_p (op : Op) (o : Operand) : (s.advance op o).p = s.p := rfl
@[simp] theorem advance_e (op : Op) (o : Operand) : (s.advance op o).e = s.e := rfl
@[simp] theorem advance_halted (op : Op) (o : Operand) : (s.advance op o).halted = s.halted := rfl
@[simp] theorem advance_mem (op : Op) (o : Operand) : (s.advance op o).mem = s.mem := rfl
@[simp] theorem advance_intsig (op : Op) (o : Operand) : (s.advance op o).intsig = s.intsig := rfl
@[simp] theorem advance_host (op : Op) (o : Operand) : (s.advance op o).host = s.host := rfl
@[simp] theorem advance_cfg (op : Op) (o : Operand) : (s.advance op o).cfg = s.cfg := rfl

@[simp] theorem hostReset_a : (s.hostReset).a = s.a := rfl
@[simp] theorem hostReset_mem : (s.hostReset).mem = s.mem := rfl
@[simp] theorem hostReset_intsig : (s.hostReset).intsig = s.intsig := rfl
@[simp] theorem hostReset_host : (s.hostReset).host = s.host := rfl
@[simp] theorem hostReset_cfg : (s.hostReset).cfg = s.cfg := rfl

@[simp] theorem pushFrame_a : (s.pushFrame).a = s.a := by unfold State.pushFrame; split <;> rfl
@[simp] theorem pushFrame_x : (s.pushFrame).x = s.x := by unfold State.pushFrame; split <;> rfl
@[simp] theorem pushFrame_y : (s.pushFrame).y = s.y := by unfold State.pushFrame; split <;> rfl
@[simp] theorem pushFrame_dp : (s.pushFrame).dp = s.dp := by unfold State.pushFrame; split <;> rfl
@[simp] theorem pushFrame_pc : (s.pushFrame).pc = s.pc := by unfold State.pushFrame; split <;> rfl
@[simp] theorem pushFrame_pbr : (s.pushFrame).pbr = s.pbr := by unfold State.pushFrame; split <;> rfl
@[simp] theorem pushFrame_dbr : (s.pushFrame).dbr = s.dbr := by unfold State.pushFrame; split <;> rfl
@[simp] theorem pushFrame_p : (s.pushFrame).p = s.p := by unfold State.pushFrame; split <;> rfl
@[simp] theorem pushFrame_e : (s.pushFrame).e = s.e := by unfold State.pushFrame; split <;> rfl
@[simp] theorem pushFrame_cyc : (s.pushFrame).cyc = s.cyc := by unfold State.pushFrame; split <;> rfl
@[simp] theorem pushFrame_halted : (s.pushFrame).halted = s.halted := by unfold State.pushFrame; split <;> rfl
@[simp] theorem pushFrame_intsig : (s.pushFrame).intsig = s.intsig := by unfold State.pushFrame; split <;> rfl
@[simp] theorem pushFrame_host : (s.pushFrame).host = s.host := by unfold State.pushFrame; split <;> rfl
@[simp] theorem pushFrame_cfg : (s.pushFrame).cfg = s.cfg := by unfold State.pushFrame; split <;> rfl

@[simp] theorem takeInterrupt_a (k : SoftInterrupt) : (s.takeInterrupt k).a = s.a := by simp only [State.takeInterrupt, setFlag_a, pushFrame_a]
@[simp] theorem takeInterrupt_x (k : SoftInterrupt) : (s.takeInterrupt k).x = s.x := by simp only [State.takeInterrupt, setFlag_x, pushFrame_x]
@[simp] theorem takeInterrupt_y (k : SoftInterrupt) : (s.takeInterrupt k).y = s.y := by simp only [State.takeInterrupt, setFlag_y, pushFrame_y]
@[simp] theorem takeInterrupt_dp (k : SoftInterrupt) : (s.takeInterrupt k).dp = s.dp := by simp only [State.takeInterrupt, setFlag_dp, pushFrame_dp]
@[simp] theorem takeInterrupt_dbr (k : SoftInterrupt) : (s.takeInterrupt k).dbr = s.dbr := by simp only [State.takeInterrupt, setFlag_dbr, pushFrame_dbr]
@[simp] theorem takeInterrupt_e (k : SoftInterrupt) : (s.takeInterrupt k).e = s.e := by simp only [State.takeInterrupt, setFlag_e, pushFrame_e]
@[simp] theorem takeInterrupt_cyc (k : SoftInterrupt) : (s.takeInterrupt k).cyc = s.cyc := by simp only [State.takeInterrupt, setFlag_cyc, pushFrame_cyc]
@[simp] theorem takeInterrupt_halted (k : SoftInterrupt) : (s.takeInterrupt k).halted = s.halted := by simp only [State.takeInterrupt, setFlag_halted, pushFrame_halted]
@[simp] theorem takeInterrupt_intsig (k : SoftInterrupt) : (s.takeInterrupt k).intsig = s.intsig := by simp only [State.takeInterrupt, setFlag_intsig, pushFrame_intsig]
@[simp] theorem takeInterrupt_host (k : SoftInterrupt) : (s.takeInterrupt k).host = s.host := by simp only [State.takeInterrupt, setFlag_host, pushFrame_host]
@[simp] theorem takeInterrupt_cfg (k : SoftInterrupt) : (s.takeInterrupt k).cfg = s.cfg := by simp only [State.takeInterrupt, setFlag_cfg, pushFrame_cfg]

@[simp] theorem returnFromInterrupt_a : (s.returnFromInterrupt).a = s.a := rfl
@[simp] theorem returnFromInterrupt_dp : (s.returnFromInterrupt).dp = s.dp := rfl
@[simp] theorem returnFromInterrupt_dbr : (s.returnFromInterrupt).dbr = s.dbr := rfl
@[simp] theorem returnFromInterrupt_e : (s.returnFromInterrupt).e = s.e := rfl
@[simp] theorem returnFromInterrupt_cyc : (s.returnFromInterrupt).cyc = s.cyc := rfl
@[simp] theorem returnFromInterrupt_halted : (s.returnFromInterrupt).halted = s.halted := rfl
@[simp] theorem returnFromInterrupt_mem : (s.returnFromInterrupt).mem = s.mem := rfl
@[simp] theorem returnFromInterrupt_intsig : (s.returnFromInterrupt).intsig = s.intsig := rfl
@[simp] theorem returnFromInterrupt_host : (s.returnFromInterrupt).host = s.host := rfl
@[simp] theorem returnFromInterrupt_cfg : (s.returnFromInterrupt).cfg = s.cfg := rfl

@[simp] theorem writeA_a (n : Bool) (v : Word) : (s.writeA n v).a = if n then wordOf (hi s.a) (lo v) else v := rfl
@[simp] theorem writeX_x (n : Bool) (v : Word) : (s.writeX n v).x = clip n v := rfl
@[simp] theorem writeY_y (n : Bool) (v : Word) : (s.writeY n v).y = clip n v := rfl
@[simp] theorem advance_pc (op : Op) (o : Operand) :
    (s.advance op o).pc = s.pc + 1 + BitVec.ofNat 16 (o.size s.m8 s.x8) := rfl
@[simp] theorem advance_cyc (op : Op) (o : Operand) : (s.advance op o).cyc = s.cyc + s.instrCost op o.mode := rfl
@[simp] theorem advance_m8 (op : Op) (o : Operand) : (s.advance op o).m8 = s.m8 := rfl
@[simp] theorem advance_x8 (op : Op) (o : Operand) : (s.advance op o).x8 = s.x8 := rfl
@[simp] theorem advance_flag (op : Op) (o : Operand) (f : Flag) : (s.advance op o).flag f = s.flag f := rfl
@[simp] theorem advance_xv (op : Op) (o : Operand) : (s.advance op o).xv = s.xv := rfl
@[simp] theorem advance_yv (op : Op) (o : Operand) : (s.advance op o).yv = s.yv := rfl
@[simp] theorem advance_readByte (op : Op) (o : Operand) (a : Addr) : (s.advance op o).readByte a = s.readByte a := rfl
@[simp] theorem advance_readSized (op : Op) (o : Operand) (n : Bool) (a : Addr) :
    (s.advance op o).readSized n a = s.readSized n a := rfl
@[simp] theorem advance_read16 (op : Op) (o : Operand) (a : Addr) : (s.advance op o).read16 a = s.read16 a := rfl
@[simp] theorem advance_operandValue (op : Op) (o o' : Operand) (n : Bool) (a : Addr) :
    (s.advance op o).operandValue n o' a = s.operandValue n o' a := by cases o' <;> rfl
@[simp] theorem takeInterrupt_pbr (k : SoftInterrupt) : (s.takeInterrupt k).pbr = 0x00 := rfl
@[simp] theorem takeInterrupt_mem (k : SoftInterrupt) : (s.takeInterrupt k).mem = s.pushFrame.mem := rfl
@[simp] theorem takeInterrupt_sp (k : SoftInterrupt) : (s.takeInterrupt k).sp = s.pushFrame.sp := rfl
@[simp] theorem push8_sp (v : Byte) : (s.push8 v).sp = spDown s.e s.sp := rfl
@[simp] theorem push16_sp (v : Word) : (s.push16 v).sp = spDown s.e (spDown s.e s.sp) := rfl
@[simp] theorem popped_sp : s.popped.sp = spUp s.e s.sp := rfl
@[simp] theorem pull8_sp : s.pull8.2.sp = spUp s.e s.sp := rfl
@[simp] theorem pull16_sp : s.pull16.2.sp = spUp s.e (spUp s.e s.sp) := rfl

end Sys2Proof.Machine.State
end

