-- ==== Sys2Proof/Laws/Dispatch.lean ====
section
/-! SUPPORT. Laws of `exec`: every arm is its mnemonic's handler in the frame of a step, so it answers a next state. -/

namespace Sys2Proof.Machine

/-- The handler of a mnemonic, its configuration-free effect (spec/00_scope.md R12). -/
def handlerOf : Op → Handler
  | .brk => Sys2Proof.Machine.brk
  | .ora => Sys2Proof.Machine.ora
  | .cop => Sys2Proof.Machine.cop
  | .tsb => Sys2Proof.Machine.tsb
  | .asl => Sys2Proof.Machine.asl
  | .php => Sys2Proof.Machine.php
  | .phd => Sys2Proof.Machine.phd
  | .bpl => Sys2Proof.Machine.bpl
  | .trb => Sys2Proof.Machine.trb
  | .clc => Sys2Proof.Machine.clc
  | .inc => Sys2Proof.Machine.inc
  | .tcs => Sys2Proof.Machine.tcs
  | .jsr => Sys2Proof.Machine.jsr
  | .and => Sys2Proof.Machine.and
  | .jsl => Sys2Proof.Machine.jsl
  | .bit => Sys2Proof.Machine.bit
  | .rol => Sys2Proof.Machine.rol
  | .plp => Sys2Proof.Machine.plp
  | .pld => Sys2Proof.Machine.pld
  | .bmi => Sys2Proof.Machine.bmi
  | .sec => Sys2Proof.Machine.sec
  | .dec => Sys2Proof.Machine.dec
  | .tsc => Sys2Proof.Machine.tsc
  | .rti => Sys2Proof.Machine.rti
  | .eor => Sys2Proof.Machine.eor
  | .wdm => Sys2Proof.Machine.wdm
  | .mvp => Sys2Proof.Machine.mvp
  | .lsr => Sys2Proof.Machine.lsr
  | .pha => Sys2Proof.Machine.pha
  | .phk => Sys2Proof.Machine.phk
  | .jmp => Sys2Proof.Machine.jmp
  | .bvc => Sys2Proof.Machine.bvc
  | .mvn => Sys2Proof.Machine.mvn
  | .cli => Sys2Proof.Machine.cli
  | .phy => Sys2Proof.Machine.phy
  | .tcd => Sys2Proof.Machine.tcd
  | .rts => Sys2Proof.Machine.rts
  | .adc => Sys2Proof.Machine.adc
  | .per => Sys2Proof.Machine.per
  | .stz => Sys2Proof.Machine.stz
  | .ror => Sys2Proof.Machine.ror
  | .pla => Sys2Proof.Machine.pla
  | .rtl => Sys2Proof.Machine.rtl
  | .bvs => Sys2Proof.Machine.bvs
  | .sei => Sys2Proof.Machine.sei
  | .ply => Sys2Proof.Machine.ply
  | .tdc => Sys2Proof.Machine.tdc
  | .bra => Sys2Proof.Machine.bra
  | .sta => Sys2Proof.Machine.sta
  | .brl => Sys2Proof.Machine.brl
  | .sty => Sys2Proof.Machine.sty
  | .stx => Sys2Proof.Machine.stx
  | .dey => Sys2Proof.Machine.dey
  | .txa => Sys2Proof.Machine.txa
  | .phb => Sys2Proof.Machine.phb
  | .bcc => Sys2Proof.Machine.bcc
  | .tya => Sys2Proof.Machine.tya
  | .txs => Sys2Proof.Machine.txs
  | .txy => Sys2Proof.Machine.txy
  | .ldy => Sys2Proof.Machine.ldy
  | .lda => Sys2Proof.Machine.lda
  | .ldx => Sys2Proof.Machine.ldx
  | .tay => Sys2Proof.Machine.tay
  | .tax => Sys2Proof.Machine.tax
  | .plb => Sys2Proof.Machine.plb
  | .bcs => Sys2Proof.Machine.bcs
  | .clv => Sys2Proof.Machine.clv
  | .tsx => Sys2Proof.Machine.tsx
  | .tyx => Sys2Proof.Machine.tyx
  | .cpy => Sys2Proof.Machine.cpy
  | .cmp => Sys2Proof.Machine.cmp
  | .rep => Sys2Proof.Machine.rep
  | .iny => Sys2Proof.Machine.iny
  | .dex => Sys2Proof.Machine.dex
  | .wai => Sys2Proof.Machine.wai
  | .bne => Sys2Proof.Machine.bne
  | .pei => Sys2Proof.Machine.pei
  | .cld => Sys2Proof.Machine.cld
  | .phx => Sys2Proof.Machine.phx
  | .stp => Sys2Proof.Machine.stp
  | .cpx => Sys2Proof.Machine.cpx
  | .sbc => Sys2Proof.Machine.sbc
  | .sep => Sys2Proof.Machine.sep
  | .inx => Sys2Proof.Machine.inx
  | .nop => Sys2Proof.Machine.nop
  | .xba => Sys2Proof.Machine.xba
  | .beq => Sys2Proof.Machine.beq
  | .pea => Sys2Proof.Machine.pea
  | .sed => Sys2Proof.Machine.sed
  | .plx => Sys2Proof.Machine.plx
  | .xce => Sys2Proof.Machine.xce

/-- Every arm of `exec` runs its mnemonic's handler on its operand. -/
theorem exec_eq_run (i : Instr) (s : State) : exec i s = run i.op i.operand (handlerOf i.op) s := by cases i <;> rfl

/-- The state an instruction leaves. -/
theorem exec_eq_next (i : Instr) (s : State) :
    exec i s = .next (handlerOf i.op i.operand (s.eaOf i) (s.advance i.op i.operand)) := exec_eq_run i s

/-- What an instruction answers is that state and no other. -/
theorem eq_of_exec {i : Instr} {s t : State} (h : exec i s = .next t) :
    t = handlerOf i.op i.operand (s.eaOf i) (s.advance i.op i.operand) := by
  rw [exec_eq_next] at h
  injection h with h
  exact h.symm

/-- PC and CYC after the operand is consumed are those of a statement's `Advanced`. -/
theorem State.advance_nextPc (s : State) (i : Instr) : (s.advance i.op i.operand).pc = s.nextPc i := by
  rw [State.advance_pc, State.nextPc, Instr.length, BitVec.ofNat_add, BitVec.add_assoc]
  rfl

theorem State.advance_costOf (s : State) (i : Instr) : (s.advance i.op i.operand).cyc = s.cyc + s.costOf i := rfl

end Sys2Proof.Machine
end

