-- ==== Sys2Proof/Laws/PerInstr.lean ====
section
/-! SUPPORT. Statements for all instructions, one lemma per constructor of `Instr`. -/

namespace Sys2Proof.Laws

/-- The opcode of an instruction is the entry of the opcode map that holds its mnemonic and its mode (spec/30_encoding.md R94). -/
def OpcodeRow.Statement (i : Instr) : Prop := opcodeEntry i.opcode = some (i.op, i.operand.mode)

theorem OpcodeRow.brk : ∀ sig, OpcodeRow.Statement (.brk sig) := fun _ => (rfl : opcodeEntry 0x00 = some (.brk, .immb))
theorem OpcodeRow.oraDpix : ∀ d, OpcodeRow.Statement (.oraDpix d) := fun _ => (rfl : opcodeEntry 0x01 = some (.ora, .dpix))
theorem OpcodeRow.cop : ∀ sig, OpcodeRow.Statement (.cop sig) := fun _ => (rfl : opcodeEntry 0x02 = some (.cop, .immb))
theorem OpcodeRow.oraSrel : ∀ d, OpcodeRow.Statement (.oraSrel d) := fun _ => (rfl : opcodeEntry 0x03 = some (.ora, .srel))
theorem OpcodeRow.tsbDpag : ∀ d, OpcodeRow.Statement (.tsbDpag d) := fun _ => (rfl : opcodeEntry 0x04 = some (.tsb, .dpag))
theorem OpcodeRow.oraDpag : ∀ d, OpcodeRow.Statement (.oraDpag d) := fun _ => (rfl : opcodeEntry 0x05 = some (.ora, .dpag))
theorem OpcodeRow.aslDpag : ∀ d, OpcodeRow.Statement (.aslDpag d) := fun _ => (rfl : opcodeEntry 0x06 = some (.asl, .dpag))
theorem OpcodeRow.oraDpil : ∀ d, OpcodeRow.Statement (.oraDpil d) := fun _ => (rfl : opcodeEntry 0x07 = some (.ora, .dpil))
theorem OpcodeRow.php : OpcodeRow.Statement .php := (rfl : opcodeEntry 0x08 = some (.php, .impl))
theorem OpcodeRow.oraImmm : ∀ v, OpcodeRow.Statement (.oraImmm v) := fun _ => (rfl : opcodeEntry 0x09 = some (.ora, .immm))
theorem OpcodeRow.aslAcc : OpcodeRow.Statement .aslAcc := (rfl : opcodeEntry 0x0A = some (.asl, .acc))
theorem OpcodeRow.phd : OpcodeRow.Statement .phd := (rfl : opcodeEntry 0x0B = some (.phd, .impl))
theorem OpcodeRow.tsbAbs : ∀ w, OpcodeRow.Statement (.tsbAbs w) := fun _ => (rfl : opcodeEntry 0x0C = some (.tsb, .abs))
theorem OpcodeRow.oraAbs : ∀ w, OpcodeRow.Statement (.oraAbs w) := fun _ => (rfl : opcodeEntry 0x0D = some (.ora, .abs))
theorem OpcodeRow.aslAbs : ∀ w, OpcodeRow.Statement (.aslAbs w) := fun _ => (rfl : opcodeEntry 0x0E = some (.asl, .abs))
theorem OpcodeRow.oraAlng : ∀ l, OpcodeRow.Statement (.oraAlng l) := fun _ => (rfl : opcodeEntry 0x0F = some (.ora, .alng))
theorem OpcodeRow.bpl : ∀ d, OpcodeRow.Statement (.bpl d) := fun _ => (rfl : opcodeEntry 0x10 = some (.bpl, .rela))
theorem OpcodeRow.oraDpiy : ∀ d, OpcodeRow.Statement (.oraDpiy d) := fun _ => (rfl : opcodeEntry 0x11 = some (.ora, .dpiy))
theorem OpcodeRow.oraDpgi : ∀ d, OpcodeRow.Statement (.oraDpgi d) := fun _ => (rfl : opcodeEntry 0x12 = some (.ora, .dpgi))
theorem OpcodeRow.oraSriy : ∀ d, OpcodeRow.Statement (.oraSriy d) := fun _ => (rfl : opcodeEntry 0x13 = some (.ora, .sriy))
theorem OpcodeRow.trbDpag : ∀ d, OpcodeRow.Statement (.trbDpag d) := fun _ => (rfl : opcodeEntry 0x14 = some (.trb, .dpag))
theorem OpcodeRow.oraDpgx : ∀ d, OpcodeRow.Statement (.oraDpgx d) := fun _ => (rfl : opcodeEntry 0x15 = some (.ora, .dpgx))
theorem OpcodeRow.aslDpgx : ∀ d, OpcodeRow.Statement (.aslDpgx d) := fun _ => (rfl : opcodeEntry 0x16 = some (.asl, .dpgx))
theorem OpcodeRow.oraDily : ∀ d, OpcodeRow.Statement (.oraDily d) := fun _ => (rfl : opcodeEntry 0x17 = some (.ora, .dily))
theorem OpcodeRow.clc : OpcodeRow.Statement .clc := (rfl : opcodeEntry 0x18 = some (.clc, .impl))
theorem OpcodeRow.oraAbsy : ∀ w, OpcodeRow.Statement (.oraAbsy w) := fun _ => (rfl : opcodeEntry 0x19 = some (.ora, .absy))
theorem OpcodeRow.incAcc : OpcodeRow.Statement .incAcc := (rfl : opcodeEntry 0x1A = some (.inc, .acc))
theorem OpcodeRow.tcs : OpcodeRow.Statement .tcs := (rfl : opcodeEntry 0x1B = some (.tcs, .impl))
theorem OpcodeRow.trbAbs : ∀ w, OpcodeRow.Statement (.trbAbs w) := fun _ => (rfl : opcodeEntry 0x1C = some (.trb, .abs))
theorem OpcodeRow.oraAbsx : ∀ w, OpcodeRow.Statement (.oraAbsx w) := fun _ => (rfl : opcodeEntry 0x1D = some (.ora, .absx))
theorem OpcodeRow.aslAbsx : ∀ w, OpcodeRow.Statement (.aslAbsx w) := fun _ => (rfl : opcodeEntry 0x1E = some (.asl, .absx))
theorem OpcodeRow.oraAlnx : ∀ l, OpcodeRow.Statement (.oraAlnx l) := fun _ => (rfl : opcodeEntry 0x1F = some (.ora, .alnx))
theorem OpcodeRow.jsrAbs : ∀ w, OpcodeRow.Statement (.jsrAbs w) := fun _ => (rfl : opcodeEntry 0x20 = some (.jsr, .abs))
theorem OpcodeRow.andDpix : ∀ d, OpcodeRow.Statement (.andDpix d) := fun _ => (rfl : opcodeEntry 0x21 = some (.and, .dpix))
theorem OpcodeRow.jsl : ∀ l, OpcodeRow.Statement (.jsl l) := fun _ => (rfl : opcodeEntry 0x22 = some (.jsl, .alng))
theorem OpcodeRow.andSrel : ∀ d, OpcodeRow.Statement (.andSrel d) := fun _ => (rfl : opcodeEntry 0x23 = some (.and, .srel))
theorem OpcodeRow.bitDpag : ∀ d, OpcodeRow.Statement (.bitDpag d) := fun _ => (rfl : opcodeEntry 0x24 = some (.bit, .dpag))
theorem OpcodeRow.andDpag : ∀ d, OpcodeRow.Statement (.andDpag d) := fun _ => (rfl : opcodeEntry 0x25 = some (.and, .dpag))
theorem OpcodeRow.rolDpag : ∀ d, OpcodeRow.Statement (.rolDpag d) := fun _ => (rfl : opcodeEntry 0x26 = some (.rol, .dpag))
theorem OpcodeRow.andDpil : ∀ d, OpcodeRow.Statement (.andDpil d) := fun _ => (rfl : opcodeEntry 0x27 = some (.and, .dpil))
theorem OpcodeRow.plp : OpcodeRow.Statement .plp := (rfl : opcodeEntry 0x28 = some (.plp, .impl))
theorem OpcodeRow.andImmm : ∀ v, OpcodeRow.Statement (.andImmm v) := fun _ => (rfl : opcodeEntry 0x29 = some (.and, .immm))
theorem OpcodeRow.rolAcc : OpcodeRow.Statement .rolAcc := (rfl : opcodeEntry 0x2A = some (.rol, .acc))
theorem OpcodeRow.pld : OpcodeRow.Statement .pld := (rfl : opcodeEntry 0x2B = some (.pld, .impl))
theorem OpcodeRow.bitAbs : ∀ w, OpcodeRow.Statement (.bitAbs w) := fun _ => (rfl : opcodeEntry 0x2C = some (.bit, .abs))
theorem OpcodeRow.andAbs : ∀ w, OpcodeRow.Statement (.andAbs w) := fun _ => (rfl : opcodeEntry 0x2D = some (.and, .abs))
theorem OpcodeRow.rolAbs : ∀ w, OpcodeRow.Statement (.rolAbs w) := fun _ => (rfl : opcodeEntry 0x2E = some (.rol, .abs))
theorem OpcodeRow.andAlng : ∀ l, OpcodeRow.Statement (.andAlng l) := fun _ => (rfl : opcodeEntry 0x2F = some (.and, .alng))
theorem OpcodeRow.bmi : ∀ d, OpcodeRow.Statement (.bmi d) := fun _ => (rfl : opcodeEntry 0x30 = some (.bmi, .rela))
theorem OpcodeRow.andDpiy : ∀ d, OpcodeRow.Statement (.andDpiy d) := fun _ => (rfl : opcodeEntry 0x31 = some (.and, .dpiy))
theorem OpcodeRow.andDpgi : ∀ d, OpcodeRow.Statement (.andDpgi d) := fun _ => (rfl : opcodeEntry 0x32 = some (.and, .dpgi))
theorem OpcodeRow.andSriy : ∀ d, OpcodeRow.Statement (.andSriy d) := fun _ => (rfl : opcodeEntry 0x33 = some (.and, .sriy))
theorem OpcodeRow.bitDpgx : ∀ d, OpcodeRow.Statement (.bitDpgx d) := fun _ => (rfl : opcodeEntry 0x34 = some (.bit, .dpgx))
theorem OpcodeRow.andDpgx : ∀ d, OpcodeRow.Statement (.andDpgx d) := fun _ => (rfl : opcodeEntry 0x35 = some (.and, .dpgx))
theorem OpcodeRow.rolDpgx : ∀ d, OpcodeRow.Statement (.rolDpgx d) := fun _ => (rfl : opcodeEntry 0x36 = some (.rol, .dpgx))
theorem OpcodeRow.andDily : ∀ d, OpcodeRow.Statement (.andDily d) := fun _ => (rfl : opcodeEntry 0x37 = some (.and, .dily))
theorem OpcodeRow.sec : OpcodeRow.Statement .sec := (rfl : opcodeEntry 0x38 = some (.sec, .impl))
theorem OpcodeRow.andAbsy : ∀ w, OpcodeRow.Statement (.andAbsy w) := fun _ => (rfl : opcodeEntry 0x39 = some (.and, .absy))
theorem OpcodeRow.decAcc : OpcodeRow.Statement .decAcc := (rfl : opcodeEntry 0x3A = some (.dec, .acc))
theorem OpcodeRow.tsc : OpcodeRow.Statement .tsc := (rfl : opcodeEntry 0x3B = some (.tsc, .impl))
theorem OpcodeRow.bitAbsx : ∀ w, OpcodeRow.Statement (.bitAbsx w) := fun _ => (rfl : opcodeEntry 0x3C = some (.bit, .absx))
theorem OpcodeRow.andAbsx : ∀ w, OpcodeRow.Statement (.andAbsx w) := fun _ => (rfl : opcodeEntry 0x3D = some (.and, .absx))
theorem OpcodeRow.rolAbsx : ∀ w, OpcodeRow.Statement (.rolAbsx w) := fun _ => (rfl : opcodeEntry 0x3E = some (.rol, .absx))
theorem OpcodeRow.andAlnx : ∀ l, OpcodeRow.Statement (.andAlnx l) := fun _ => (rfl : opcodeEntry 0x3F = some (.and, .alnx))
theorem OpcodeRow.rti : OpcodeRow.Statement .rti := (rfl : opcodeEntry 0x40 = some (.rti, .impl))
theorem OpcodeRow.eorDpix : ∀ d, OpcodeRow.Statement (.eorDpix d) := fun _ => (rfl : opcodeEntry 0x41 = some (.eor, .dpix))
theorem OpcodeRow.wdm : ∀ b, OpcodeRow.Statement (.wdm b) := fun _ => (rfl : opcodeEntry 0x42 = some (.wdm, .immb))
theorem OpcodeRow.eorSrel : ∀ d, OpcodeRow.Statement (.eorSrel d) := fun _ => (rfl : opcodeEntry 0x43 = some (.eor, .srel))
theorem OpcodeRow.mvp : ∀ dst src, OpcodeRow.Statement (.mvp dst src) := fun _ _ => (rfl : opcodeEntry 0x44 = some (.mvp, .immw))
theorem OpcodeRow.eorDpag : ∀ d, OpcodeRow.Statement (.eorDpag d) := fun _ => (rfl : opcodeEntry 0x45 = some (.eor, .dpag))
theorem OpcodeRow.lsrDpag : ∀ d, OpcodeRow.Statement (.lsrDpag d) := fun _ => (rfl : opcodeEntry 0x46 = some (.lsr, .dpag))
theorem OpcodeRow.eorDpil : ∀ d, OpcodeRow.Statement (.eorDpil d) := fun _ => (rfl : opcodeEntry 0x47 = some (.eor, .dpil))
theorem OpcodeRow.pha : OpcodeRow.Statement .pha := (rfl : opcodeEntry 0x48 = some (.pha, .impl))
theorem OpcodeRow.eorImmm : ∀ v, OpcodeRow.Statement (.eorImmm v) := fun _ => (rfl : opcodeEntry 0x49 = some (.eor, .immm))
theorem OpcodeRow.lsrAcc : OpcodeRow.Statement .lsrAcc := (rfl : opcodeEntry 0x4A = some (.lsr, .acc))
theorem OpcodeRow.phk : OpcodeRow.Statement .phk := (rfl : opcodeEntry 0x4B = some (.phk, .impl))
theorem OpcodeRow.jmpAbs : ∀ w, OpcodeRow.Statement (.jmpAbs w) := fun _ => (rfl : opcodeEntry 0x4C = some (.jmp, .abs))
theorem OpcodeRow.eorAbs : ∀ w, OpcodeRow.Statement (.eorAbs w) := fun _ => (rfl : opcodeEntry 0x4D = some (.eor, .abs))
theorem OpcodeRow.lsrAbs : ∀ w, OpcodeRow.Statement (.lsrAbs w) := fun _ => (rfl : opcodeEntry 0x4E = some (.lsr, .abs))
theorem OpcodeRow.eorAlng : ∀ l, OpcodeRow.Statement (.eorAlng l) := fun _ => (rfl : opcodeEntry 0x4F = some (.eor, .alng))
theorem OpcodeRow.bvc : ∀ d, OpcodeRow.Statement (.bvc d) := fun _ => (rfl : opcodeEntry 0x50 = some (.bvc, .rela))
theorem OpcodeRow.eorDpiy : ∀ d, OpcodeRow.Statement (.eorDpiy d) := fun _ => (rfl : opcodeEntry 0x51 = some (.eor, .dpiy))
theorem OpcodeRow.eorDpgi : ∀ d, OpcodeRow.Statement (.eorDpgi d) := fun _ => (rfl : opcodeEntry 0x52 = some (.eor, .dpgi))
theorem OpcodeRow.eorSriy : ∀ d, OpcodeRow.Statement (.eorSriy d) := fun _ => (rfl : opcodeEntry 0x53 = some (.eor, .sriy))
theorem OpcodeRow.mvn : ∀ dst src, OpcodeRow.Statement (.mvn dst src) := fun _ _ => (rfl : opcodeEntry 0x54 = some (.mvn, .immw))
theorem OpcodeRow.eorDpgx : ∀ d, OpcodeRow.Statement (.eorDpgx d) := fun _ => (rfl : opcodeEntry 0x55 = some (.eor, .dpgx))
theorem OpcodeRow.lsrDpgx : ∀ d, OpcodeRow.Statement (.lsrDpgx d) := fun _ => (rfl : opcodeEntry 0x56 = some (.lsr, .dpgx))
theorem OpcodeRow.eorDily : ∀ d, OpcodeRow.Statement (.eorDily d) := fun _ => (rfl : opcodeEntry 0x57 = some (.eor, .dily))
theorem OpcodeRow.cli : OpcodeRow.Statement .cli := (rfl : opcodeEntry 0x58 = some (.cli, .impl))
theorem OpcodeRow.eorAbsy : ∀ w, OpcodeRow.Statement (.eorAbsy w) := fun _ => (rfl : opcodeEntry 0x59 = some (.eor, .absy))
theorem OpcodeRow.phy : OpcodeRow.Statement .phy := (rfl : opcodeEntry 0x5A = some (.phy, .impl))
theorem OpcodeRow.tcd : OpcodeRow.Statement .tcd := (rfl : opcodeEntry 0x5B = some (.tcd, .impl))
theorem OpcodeRow.jmpAlng : ∀ l, OpcodeRow.Statement (.jmpAlng l) := fun _ => (rfl : opcodeEntry 0x5C = some (.jmp, .alng))
theorem OpcodeRow.eorAbsx : ∀ w, OpcodeRow.Statement (.eorAbsx w) := fun _ => (rfl : opcodeEntry 0x5D = some (.eor, .absx))
theorem OpcodeRow.lsrAbsx : ∀ w, OpcodeRow.Statement (.lsrAbsx w) := fun _ => (rfl : opcodeEntry 0x5E = some (.lsr, .absx))
theorem OpcodeRow.eorAlnx : ∀ l, OpcodeRow.Statement (.eorAlnx l) := fun _ => (rfl : opcodeEntry 0x5F = some (.eor, .alnx))
theorem OpcodeRow.rts : OpcodeRow.Statement .rts := (rfl : opcodeEntry 0x60 = some (.rts, .impl))
theorem OpcodeRow.adcDpix : ∀ d, OpcodeRow.Statement (.adcDpix d) := fun _ => (rfl : opcodeEntry 0x61 = some (.adc, .dpix))
theorem OpcodeRow.per : ∀ w, OpcodeRow.Statement (.per w) := fun _ => (rfl : opcodeEntry 0x62 = some (.per, .lrel))
theorem OpcodeRow.adcSrel : ∀ d, OpcodeRow.Statement (.adcSrel d) := fun _ => (rfl : opcodeEntry 0x63 = some (.adc, .srel))
theorem OpcodeRow.stzDpag : ∀ d, OpcodeRow.Statement (.stzDpag d) := fun _ => (rfl : opcodeEntry 0x64 = some (.stz, .dpag))
theorem OpcodeRow.adcDpag : ∀ d, OpcodeRow.Statement (.adcDpag d) := fun _ => (rfl : opcodeEntry 0x65 = some (.adc, .dpag))
theorem OpcodeRow.rorDpag : ∀ d, OpcodeRow.Statement (.rorDpag d) := fun _ => (rfl : opcodeEntry 0x66 = some (.ror, .dpag))
theorem OpcodeRow.adcDpil : ∀ d, OpcodeRow.Statement (.adcDpil d) := fun _ => (rfl : opcodeEntry 0x67 = some (.adc, .dpil))
theorem OpcodeRow.pla : OpcodeRow.Statement .pla := (rfl : opcodeEntry 0x68 = some (.pla, .impl))
theorem OpcodeRow.adcImmm : ∀ v, OpcodeRow.Statement (.adcImmm v) := fun _ => (rfl : opcodeEntry 0x69 = some (.adc, .immm))
theorem OpcodeRow.rorAcc : OpcodeRow.Statement .rorAcc := (rfl : opcodeEntry 0x6A = some (.ror, .acc))
theorem OpcodeRow.rtl : OpcodeRow.Statement .rtl := (rfl : opcodeEntry 0x6B = some (.rtl, .impl))
theorem OpcodeRow.jmpAbsi : ∀ w, OpcodeRow.Statement (.jmpAbsi w) := fun _ => (rfl : opcodeEntry 0x6C = some (.jmp, .absi))
theorem OpcodeRow.adcAbs : ∀ w, OpcodeRow.Statement (.adcAbs w) := fun _ => (rfl : opcodeEntry 0x6D = some (.adc, .abs))
theorem OpcodeRow.rorAbs : ∀ w, OpcodeRow.Statement (.rorAbs w) := fun _ => (rfl : opcodeEntry 0x6E = some (.ror, .abs))
theorem OpcodeRow.adcAlng : ∀ l, OpcodeRow.Statement (.adcAlng l) := fun _ => (rfl : opcodeEntry 0x6F = some (.adc, .alng))
theorem OpcodeRow.bvs : ∀ d, OpcodeRow.Statement (.bvs d) := fun _ => (rfl : opcodeEntry 0x70 = some (.bvs, .rela))
theorem OpcodeRow.adcDpiy : ∀ d, OpcodeRow.Statement (.adcDpiy d) := fun _ => (rfl : opcodeEntry 0x71 = some (.adc, .dpiy))
theorem OpcodeRow.adcDpgi : ∀ d, OpcodeRow.Statement (.adcDpgi d) := fun _ => (rfl : opcodeEntry 0x72 = some (.adc, .dpgi))
theorem OpcodeRow.adcSriy : ∀ d, OpcodeRow.Statement (.adcSriy d) := fun _ => (rfl : opcodeEntry 0x73 = some (.adc, .sriy))
theorem OpcodeRow.stzDpgx : ∀ d, OpcodeRow.Statement (.stzDpgx d) := fun _ => (rfl : opcodeEntry 0x74 = some (.stz, .dpgx))
theorem OpcodeRow.adcDpgx : ∀ d, OpcodeRow.Statement (.adcDpgx d) := fun _ => (rfl : opcodeEntry 0x75 = some (.adc, .dpgx))
theorem OpcodeRow.rorDpgx : ∀ d, OpcodeRow.Statement (.rorDpgx d) := fun _ => (rfl : opcodeEntry 0x76 = some (.ror, .dpgx))
theorem OpcodeRow.adcDily : ∀ d, OpcodeRow.Statement (.adcDily d) := fun _ => (rfl : opcodeEntry 0x77 = some (.adc, .dily))
theorem OpcodeRow.sei : OpcodeRow.Statement .sei := (rfl : opcodeEntry 0x78 = some (.sei, .impl))
theorem OpcodeRow.adcAbsy : ∀ w, OpcodeRow.Statement (.adcAbsy w) := fun _ => (rfl : opcodeEntry 0x79 = some (.adc, .absy))
theorem OpcodeRow.ply : OpcodeRow.Statement .ply := (rfl : opcodeEntry 0x7A = some (.ply, .impl))
theorem OpcodeRow.tdc : OpcodeRow.Statement .tdc := (rfl : opcodeEntry 0x7B = some (.tdc, .impl))
theorem OpcodeRow.jmpAbxi : ∀ w, OpcodeRow.Statement (.jmpAbxi w) := fun _ => (rfl : opcodeEntry 0x7C = some (.jmp, .abxi))
theorem OpcodeRow.adcAbsx : ∀ w, OpcodeRow.Statement (.adcAbsx w) := fun _ => (rfl : opcodeEntry 0x7D = some (.adc, .absx))
theorem OpcodeRow.rorAbsx : ∀ w, OpcodeRow.Statement (.rorAbsx w) := fun _ => (rfl : opcodeEntry 0x7E = some (.ror, .absx))
theorem OpcodeRow.adcAlnx : ∀ l, OpcodeRow.Statement (.adcAlnx l) := fun _ => (rfl : opcodeEntry 0x7F = some (.adc, .alnx))
theorem OpcodeRow.bra : ∀ d, OpcodeRow.Statement (.bra d) := fun _ => (rfl : opcodeEntry 0x80 = some (.bra, .rela))
theorem OpcodeRow.staDpix : ∀ d, OpcodeRow.Statement (.staDpix d) := fun _ => (rfl : opcodeEntry 0x81 = some (.sta, .dpix))
theorem OpcodeRow.brl : ∀ w, OpcodeRow.Statement (.brl w) := fun _ => (rfl : opcodeEntry 0x82 = some (.brl, .lrel))
theorem OpcodeRow.staSrel : ∀ d, OpcodeRow.Statement (.staSrel d) := fun _ => (rfl : opcodeEntry 0x83 = some (.sta, .srel))
theorem OpcodeRow.styDpag : ∀ d, OpcodeRow.Statement (.styDpag d) := fun _ => (rfl : opcodeEntry 0x84 = some (.sty, .dpag))
theorem OpcodeRow.staDpag : ∀ d, OpcodeRow.Statement (.staDpag d) := fun _ => (rfl : opcodeEntry 0x85 = some (.sta, .dpag))
theorem OpcodeRow.stxDpag : ∀ d, OpcodeRow.Statement (.stxDpag d) := fun _ => (rfl : opcodeEntry 0x86 = some (.stx, .dpag))
theorem OpcodeRow.staDpil : ∀ d, OpcodeRow.Statement (.staDpil d) := fun _ => (rfl : opcodeEntry 0x87 = some (.sta, .dpil))
theorem OpcodeRow.dey : OpcodeRow.Statement .dey := (rfl : opcodeEntry 0x88 = some (.dey, .impl))
theorem OpcodeRow.bitImmm : ∀ v, OpcodeRow.Statement (.bitImmm v) := fun _ => (rfl : opcodeEntry 0x89 = some (.bit, .immm))
theorem OpcodeRow.txa : OpcodeRow.Statement .txa := (rfl : opcodeEntry 0x8A = some (.txa, .impl))
theorem OpcodeRow.phb : OpcodeRow.Statement .phb := (rfl : opcodeEntry 0x8B = some (.phb, .impl))
theorem OpcodeRow.styAbs : ∀ w, OpcodeRow.Statement (.styAbs w) := fun _ => (rfl : opcodeEntry 0x8C = some (.sty, .abs))
theorem OpcodeRow.staAbs : ∀ w, OpcodeRow.Statement (.staAbs w) := fun _ => (rfl : opcodeEntry 0x8D = some (.sta, .abs))
theorem OpcodeRow.stxAbs : ∀ w, OpcodeRow.Statement (.stxAbs w) := fun _ => (rfl : opcodeEntry 0x8E = some (.stx, .abs))
theorem OpcodeRow.staAlng : ∀ l, OpcodeRow.Statement (.staAlng l) := fun _ => (rfl : opcodeEntry 0x8F = some (.sta, .alng))
theorem OpcodeRow.bcc : ∀ d, OpcodeRow.Statement (.bcc d) := fun _ => (rfl : opcodeEntry 0x90 = some (.bcc, .rela))
theorem OpcodeRow.staDpiy : ∀ d, OpcodeRow.Statement (.staDpiy d) := fun _ => (rfl : opcodeEntry 0x91 = some (.sta, .dpiy))
theorem OpcodeRow.staDpgi : ∀ d, OpcodeRow.Statement (.staDpgi d) := fun _ => (rfl : opcodeEntry 0x92 = some (.sta, .dpgi))
theorem OpcodeRow.staSriy : ∀ d, OpcodeRow.Statement (.staSriy d) := fun _ => (rfl : opcodeEntry 0x93 = some (.sta, .sriy))
theorem OpcodeRow.styDpgx : ∀ d, OpcodeRow.Statement (.styDpgx d) := fun _ => (rfl : opcodeEntry 0x94 = some (.sty, .dpgx))
theorem OpcodeRow.staDpgx : ∀ d, OpcodeRow.Statement (.staDpgx d) := fun _ => (rfl : opcodeEntry 0x95 = some (.sta, .dpgx))
theorem OpcodeRow.stxDpgy : ∀ d, OpcodeRow.Statement (.stxDpgy d) := fun _ => (rfl : opcodeEntry 0x96 = some (.stx, .dpgy))
theorem OpcodeRow.staDily : ∀ d, OpcodeRow.Statement (.staDily d) := fun _ => (rfl : opcodeEntry 0x97 = some (.sta, .dily))
theorem OpcodeRow.tya : OpcodeRow.Statement .tya := (rfl : opcodeEntry 0x98 = some (.tya, .impl))
theorem OpcodeRow.staAbsy : ∀ w, OpcodeRow.Statement (.staAbsy w) := fun _ => (rfl : opcodeEntry 0x99 = some (.sta, .absy))
theorem OpcodeRow.txs : OpcodeRow.Statement .txs := (rfl : opcodeEntry 0x9A = some (.txs, .impl))
theorem OpcodeRow.txy : OpcodeRow.Statement .txy := (rfl : opcodeEntry 0x9B = some (.txy, .impl))
theorem OpcodeRow.stzAbs : ∀ w, OpcodeRow.Statement (.stzAbs w) := fun _ => (rfl : opcodeEntry 0x9C = some (.stz, .abs))
theorem OpcodeRow.staAbsx : ∀ w, OpcodeRow.Statement (.staAbsx w) := fun _ => (rfl : opcodeEntry 0x9D = some (.sta, .absx))
theorem OpcodeRow.stzAbsx : ∀ w, OpcodeRow.Statement (.stzAbsx w) := fun _ => (rfl : opcodeEntry 0x9E = some (.stz, .absx))
theorem OpcodeRow.staAlnx : ∀ l, OpcodeRow.Statement (.staAlnx l) := fun _ => (rfl : opcodeEntry 0x9F = some (.sta, .alnx))
theorem OpcodeRow.ldyImmx : ∀ v, OpcodeRow.Statement (.ldyImmx v) := fun _ => (rfl : opcodeEntry 0xA0 = some (.ldy, .immx))
theorem OpcodeRow.ldaDpix : ∀ d, OpcodeRow.Statement (.ldaDpix d) := fun _ => (rfl : opcodeEntry 0xA1 = some (.lda, .dpix))
theorem OpcodeRow.ldxImmx : ∀ v, OpcodeRow.Statement (.ldxImmx v) := fun _ => (rfl : opcodeEntry 0xA2 = some (.ldx, .immx))
theorem OpcodeRow.ldaSrel : ∀ d, OpcodeRow.Statement (.ldaSrel d) := fun _ => (rfl : opcodeEntry 0xA3 = some (.lda, .srel))
theorem OpcodeRow.ldyDpag : ∀ d, OpcodeRow.Statement (.ldyDpag d) := fun _ => (rfl : opcodeEntry 0xA4 = some (.ldy, .dpag))
theorem OpcodeRow.ldaDpag : ∀ d, OpcodeRow.Statement (.ldaDpag d) := fun _ => (rfl : opcodeEntry 0xA5 = some (.lda, .dpag))
theorem OpcodeRow.ldxDpag : ∀ d, OpcodeRow.Statement (.ldxDpag d) := fun _ => (rfl : opcodeEntry 0xA6 = some (.ldx, .dpag))
theorem OpcodeRow.ldaDpil : ∀ d, OpcodeRow.Statement (.ldaDpil d) := fun _ => (rfl : opcodeEntry 0xA7 = some (.lda, .dpil))
theorem OpcodeRow.tay : OpcodeRow.Statement .tay := (rfl : opcodeEntry 0xA8 = some (.tay, .impl))
theorem OpcodeRow.ldaImmm : ∀ v, OpcodeRow.Statement (.ldaImmm v) := fun _ => (rfl : opcodeEntry 0xA9 = some (.lda, .immm))
theorem OpcodeRow.tax : OpcodeRow.Statement .tax := (rfl : opcodeEntry 0xAA = some (.tax, .impl))
theorem OpcodeRow.plb : OpcodeRow.Statement .plb := (rfl : opcodeEntry 0xAB = some (.plb, .impl))
theorem OpcodeRow.ldyAbs : ∀ w, OpcodeRow.Statement (.ldyAbs w) := fun _ => (rfl : opcodeEntry 0xAC = some (.ldy, .abs))
theorem OpcodeRow.ldaAbs : ∀ w, OpcodeRow.Statement (.ldaAbs w) := fun _ => (rfl : opcodeEntry 0xAD = some (.lda, .abs))
theorem OpcodeRow.ldxAbs : ∀ w, OpcodeRow.Statement (.ldxAbs w) := fun _ => (rfl : opcodeEntry 0xAE = some (.ldx, .abs))
theorem OpcodeRow.ldaAlng : ∀ l, OpcodeRow.Statement (.ldaAlng l) := fun _ => (rfl : opcodeEntry 0xAF = some (.lda, .alng))
theorem OpcodeRow.bcs : ∀ d, OpcodeRow.Statement (.bcs d) := fun _ => (rfl : opcodeEntry 0xB0 = some (.bcs, .rela))
theorem OpcodeRow.ldaDpiy : ∀ d, OpcodeRow.Statement (.ldaDpiy d) := fun _ => (rfl : opcodeEntry 0xB1 = some (.lda, .dpiy))
theorem OpcodeRow.ldaDpgi : ∀ d, OpcodeRow.Statement (.ldaDpgi d) := fun _ => (rfl : opcodeEntry 0xB2 = some (.lda, .dpgi))
theorem OpcodeRow.ldaSriy : ∀ d, OpcodeRow.Statement (.ldaSriy d) := fun _ => (rfl : opcodeEntry 0xB3 = some (.lda, .sriy))
theorem OpcodeRow.ldyDpgx : ∀ d, OpcodeRow.Statement (.ldyDpgx d) := fun _ => (rfl : opcodeEntry 0xB4 = some (.ldy, .dpgx))
theorem OpcodeRow.ldaDpgx : ∀ d, OpcodeRow.Statement (.ldaDpgx d) := fun _ => (rfl : opcodeEntry 0xB5 = some (.lda, .dpgx))
theorem OpcodeRow.ldxDpgy : ∀ d, OpcodeRow.Statement (.ldxDpgy d) := fun _ => (rfl : opcodeEntry 0xB6 = some (.ldx, .dpgy))
theorem OpcodeRow.ldaDily : ∀ d, OpcodeRow.Statement (.ldaDily d) := fun _ => (rfl : opcodeEntry 0xB7 = some (.lda, .dily))
theorem OpcodeRow.clv : OpcodeRow.Statement .clv := (rfl : opcodeEntry 0xB8 = some (.clv, .impl))
theorem OpcodeRow.ldaAbsy : ∀ w, OpcodeRow.Statement (.ldaAbsy w) := fun _ => (rfl : opcodeEntry 0xB9 = some (.lda, .absy))
theorem OpcodeRow.tsx : OpcodeRow.Statement .tsx := (rfl : opcodeEntry 0xBA = some (.tsx, .impl))
theorem OpcodeRow.tyx : OpcodeRow.Statement .tyx := (rfl : opcodeEntry 0xBB = some (.tyx, .impl))
theorem OpcodeRow.ldyAbsx : ∀ w, OpcodeRow.Statement (.ldyAbsx w) := fun _ => (rfl : opcodeEntry 0xBC = some (.ldy, .absx))
theorem OpcodeRow.ldaAbsx : ∀ w, OpcodeRow.Statement (.ldaAbsx w) := fun _ => (rfl : opcodeEntry 0xBD = some (.lda, .absx))
theorem OpcodeRow.ldxAbsy : ∀ w, OpcodeRow.Statement (.ldxAbsy w) := fun _ => (rfl : opcodeEntry 0xBE = some (.ldx, .absy))
theorem OpcodeRow.ldaAlnx : ∀ l, OpcodeRow.Statement (.ldaAlnx l) := fun _ => (rfl : opcodeEntry 0xBF = some (.lda, .alnx))
theorem OpcodeRow.cpyImmx : ∀ v, OpcodeRow.Statement (.cpyImmx v) := fun _ => (rfl : opcodeEntry 0xC0 = some (.cpy, .immx))
theorem OpcodeRow.cmpDpix : ∀ d, OpcodeRow.Statement (.cmpDpix d) := fun _ => (rfl : opcodeEntry 0xC1 = some (.cmp, .dpix))
theorem OpcodeRow.rep : ∀ b, OpcodeRow.Statement (.rep b) := fun _ => (rfl : opcodeEntry 0xC2 = some (.rep, .immb))
theorem OpcodeRow.cmpSrel : ∀ d, OpcodeRow.Statement (.cmpSrel d) := fun _ => (rfl : opcodeEntry 0xC3 = some (.cmp, .srel))
theorem OpcodeRow.cpyDpag : ∀ d, OpcodeRow.Statement (.cpyDpag d) := fun _ => (rfl : opcodeEntry 0xC4 = some (.cpy, .dpag))
theorem OpcodeRow.cmpDpag : ∀ d, OpcodeRow.Statement (.cmpDpag d) := fun _ => (rfl : opcodeEntry 0xC5 = some (.cmp, .dpag))
theorem OpcodeRow.decDpag : ∀ d, OpcodeRow.Statement (.decDpag d) := fun _ => (rfl : opcodeEntry 0xC6 = some (.dec, .dpag))
theorem OpcodeRow.cmpDpil : ∀ d, OpcodeRow.Statement (.cmpDpil d) := fun _ => (rfl : opcodeEntry 0xC7 = some (.cmp, .dpil))
theorem OpcodeRow.iny : OpcodeRow.Statement .iny := (rfl : opcodeEntry 0xC8 = some (.iny, .impl))
theorem OpcodeRow.cmpImmm : ∀ v, OpcodeRow.Statement (.cmpImmm v) := fun _ => (rfl : opcodeEntry 0xC9 = some (.cmp, .immm))
theorem OpcodeRow.dex : OpcodeRow.Statement .dex := (rfl : opcodeEntry 0xCA = some (.dex, .impl))
theorem OpcodeRow.wai : OpcodeRow.Statement .wai := (rfl : opcodeEntry 0xCB = some (.wai, .impl))
theorem OpcodeRow.cpyAbs : ∀ w, OpcodeRow.Statement (.cpyAbs w) := fun _ => (rfl : opcodeEntry 0xCC = some (.cpy, .abs))
theorem OpcodeRow.cmpAbs : ∀ w, OpcodeRow.Statement (.cmpAbs w) := fun _ => (rfl : opcodeEntry 0xCD = some (.cmp, .abs))
theorem OpcodeRow.decAbs : ∀ w, OpcodeRow.Statement (.decAbs w) := fun _ => (rfl : opcodeEntry 0xCE = some (.dec, .abs))
theorem OpcodeRow.cmpAlng : ∀ l, OpcodeRow.Statement (.cmpAlng l) := fun _ => (rfl : opcodeEntry 0xCF = some (.cmp, .alng))
theorem OpcodeRow.bne : ∀ d, OpcodeRow.Statement (.bne d) := fun _ => (rfl : opcodeEntry 0xD0 = some (.bne, .rela))
theorem OpcodeRow.cmpDpiy : ∀ d, OpcodeRow.Statement (.cmpDpiy d) := fun _ => (rfl : opcodeEntry 0xD1 = some (.cmp, .dpiy))
theorem OpcodeRow.cmpDpgi : ∀ d, OpcodeRow.Statement (.cmpDpgi d) := fun _ => (rfl : opcodeEntry 0xD2 = some (.cmp, .dpgi))
theorem OpcodeRow.cmpSriy : ∀ d, OpcodeRow.Statement (.cmpSriy d) := fun _ => (rfl : opcodeEntry 0xD3 = some (.cmp, .sriy))
theorem OpcodeRow.pei : ∀ d, OpcodeRow.Statement (.pei d) := fun _ => (rfl : opcodeEntry 0xD4 = some (.pei, .dpag))
theorem OpcodeRow.cmpDpgx : ∀ d, OpcodeRow.Statement (.cmpDpgx d) := fun _ => (rfl : opcodeEntry 0xD5 = some (.cmp, .dpgx))
theorem OpcodeRow.decDpgx : ∀ d, OpcodeRow.Statement (.decDpgx d) := fun _ => (rfl : opcodeEntry 0xD6 = some (.dec, .dpgx))
theorem OpcodeRow.cmpDily : ∀ d, OpcodeRow.Statement (.cmpDily d) := fun _ => (rfl : opcodeEntry 0xD7 = some (.cmp, .dily))
theorem OpcodeRow.cld : OpcodeRow.Statement .cld := (rfl : opcodeEntry 0xD8 = some (.cld, .impl))
theorem OpcodeRow.cmpAbsy : ∀ w, OpcodeRow.Statement (.cmpAbsy w) := fun _ => (rfl : opcodeEntry 0xD9 = some (.cmp, .absy))
theorem OpcodeRow.phx : OpcodeRow.Statement .phx := (rfl : opcodeEntry 0xDA = some (.phx, .impl))
theorem OpcodeRow.stp : OpcodeRow.Statement .stp := (rfl : opcodeEntry 0xDB = some (.stp, .impl))
theorem OpcodeRow.jmpAbil : ∀ w, OpcodeRow.Statement (.jmpAbil w) := fun _ => (rfl : opcodeEntry 0xDC = some (.jmp, .abil))
theorem OpcodeRow.cmpAbsx : ∀ w, OpcodeRow.Statement (.cmpAbsx w) := fun _ => (rfl : opcodeEntry 0xDD = some (.cmp, .absx))
theorem OpcodeRow.decAbsx : ∀ w, OpcodeRow.Statement (.decAbsx w) := fun _ => (rfl : opcodeEntry 0xDE = some (.dec, .absx))
theorem OpcodeRow.cmpAlnx : ∀ l, OpcodeRow.Statement (.cmpAlnx l) := fun _ => (rfl : opcodeEntry 0xDF = some (.cmp, .alnx))
theorem OpcodeRow.cpxImmx : ∀ v, OpcodeRow.Statement (.cpxImmx v) := fun _ => (rfl : opcodeEntry 0xE0 = some (.cpx, .immx))
theorem OpcodeRow.sbcDpix : ∀ d, OpcodeRow.Statement (.sbcDpix d) := fun _ => (rfl : opcodeEntry 0xE1 = some (.sbc, .dpix))
theorem OpcodeRow.sep : ∀ b, OpcodeRow.Statement (.sep b) := fun _ => (rfl : opcodeEntry 0xE2 = some (.sep, .immb))
theorem OpcodeRow.sbcSrel : ∀ d, OpcodeRow.Statement (.sbcSrel d) := fun _ => (rfl : opcodeEntry 0xE3 = some (.sbc, .srel))
theorem OpcodeRow.cpxDpag : ∀ d, OpcodeRow.Statement (.cpxDpag d) := fun _ => (rfl : opcodeEntry 0xE4 = some (.cpx, .dpag))
theorem OpcodeRow.sbcDpag : ∀ d, OpcodeRow.Statement (.sbcDpag d) := fun _ => (rfl : opcodeEntry 0xE5 = some (.sbc, .dpag))
theorem OpcodeRow.incDpag : ∀ d, OpcodeRow.Statement (.incDpag d) := fun _ => (rfl : opcodeEntry 0xE6 = some (.inc, .dpag))
theorem OpcodeRow.sbcDpil : ∀ d, OpcodeRow.Statement (.sbcDpil d) := fun _ => (rfl : opcodeEntry 0xE7 = some (.sbc, .dpil))
theorem OpcodeRow.inx : OpcodeRow.Statement .inx := (rfl : opcodeEntry 0xE8 = some (.inx, .impl))
theorem OpcodeRow.sbcImmm : ∀ v, OpcodeRow.Statement (.sbcImmm v) := fun _ => (rfl : opcodeEntry 0xE9 = some (.sbc, .immm))
theorem OpcodeRow.nop : OpcodeRow.Statement .nop := (rfl : opcodeEntry 0xEA = some (.nop, .impl))
theorem OpcodeRow.xba : OpcodeRow.Statement .xba := (rfl : opcodeEntry 0xEB = some (.xba, .impl))
theorem OpcodeRow.cpxAbs : ∀ w, OpcodeRow.Statement (.cpxAbs w) := fun _ => (rfl : opcodeEntry 0xEC = some (.cpx, .abs))
theorem OpcodeRow.sbcAbs : ∀ w, OpcodeRow.Statement (.sbcAbs w) := fun _ => (rfl : opcodeEntry 0xED = some (.sbc, .abs))
theorem OpcodeRow.incAbs : ∀ w, OpcodeRow.Statement (.incAbs w) := fun _ => (rfl : opcodeEntry 0xEE = some (.inc, .abs))
theorem OpcodeRow.sbcAlng : ∀ l, OpcodeRow.Statement (.sbcAlng l) := fun _ => (rfl : opcodeEntry 0xEF = some (.sbc, .alng))
theorem OpcodeRow.beq : ∀ d, OpcodeRow.Statement (.beq d) := fun _ => (rfl : opcodeEntry 0xF0 = some (.beq, .rela))
theorem OpcodeRow.sbcDpiy : ∀ d, OpcodeRow.Statement (.sbcDpiy d) := fun _ => (rfl : opcodeEntry 0xF1 = some (.sbc, .dpiy))
theorem OpcodeRow.sbcDpgi : ∀ d, OpcodeRow.Statement (.sbcDpgi d) := fun _ => (rfl : opcodeEntry 0xF2 = some (.sbc, .dpgi))
theorem OpcodeRow.sbcSriy : ∀ d, OpcodeRow.Statement (.sbcSriy d) := fun _ => (rfl : opcodeEntry 0xF3 = some (.sbc, .sriy))
theorem OpcodeRow.pea : ∀ w, OpcodeRow.Statement (.pea w) := fun _ => (rfl : opcodeEntry 0xF4 = some (.pea, .immw))
theorem OpcodeRow.sbcDpgx : ∀ d, OpcodeRow.Statement (.sbcDpgx d) := fun _ => (rfl : opcodeEntry 0xF5 = some (.sbc, .dpgx))
theorem OpcodeRow.incDpgx : ∀ d, OpcodeRow.Statement (.incDpgx d) := fun _ => (rfl : opcodeEntry 0xF6 = some (.inc, .dpgx))
theorem OpcodeRow.sbcDily : ∀ d, OpcodeRow.Statement (.sbcDily d) := fun _ => (rfl : opcodeEntry 0xF7 = some (.sbc, .dily))
theorem OpcodeRow.sed : OpcodeRow.Statement .sed := (rfl : opcodeEntry 0xF8 = some (.sed, .impl))
theorem OpcodeRow.sbcAbsy : ∀ w, OpcodeRow.Statement (.sbcAbsy w) := fun _ => (rfl : opcodeEntry 0xF9 = some (.sbc, .absy))
theorem OpcodeRow.plx : OpcodeRow.Statement .plx := (rfl : opcodeEntry 0xFA = some (.plx, .impl))
theorem OpcodeRow.xce : OpcodeRow.Statement .xce := (rfl : opcodeEntry 0xFB = some (.xce, .impl))
theorem OpcodeRow.jsrAbxi : ∀ w, OpcodeRow.Statement (.jsrAbxi w) := fun _ => (rfl : opcodeEntry 0xFC = some (.jsr, .abxi))
theorem OpcodeRow.sbcAbsx : ∀ w, OpcodeRow.Statement (.sbcAbsx w) := fun _ => (rfl : opcodeEntry 0xFD = some (.sbc, .absx))
theorem OpcodeRow.incAbsx : ∀ w, OpcodeRow.Statement (.incAbsx w) := fun _ => (rfl : opcodeEntry 0xFE = some (.inc, .absx))
theorem OpcodeRow.sbcAlnx : ∀ l, OpcodeRow.Statement (.sbcAlnx l) := fun _ => (rfl : opcodeEntry 0xFF = some (.sbc, .alnx))

end Sys2Proof.Laws
end

