-- ==== Sys2Proof/Laws/Encoding.lean ====
section
/-! SUPPORT. Laws of the encoding: the opcode map holds every instruction, and what that says of a mnemonic's forms. -/

namespace Sys2Proof.Machine

open Sys2Proof.Laws

/-- The opcode map's entry at an instruction's opcode is its mnemonic and mode (spec/30_encoding.md R94). -/
theorem opcodeEntry_opcode (i : Instr) : opcodeEntry i.opcode = some (i.op, i.operand.mode) :=
  Instr.rec (motive := OpcodeRow.Statement)
    OpcodeRow.brk OpcodeRow.oraDpix OpcodeRow.cop OpcodeRow.oraSrel OpcodeRow.tsbDpag OpcodeRow.oraDpag OpcodeRow.aslDpag
    OpcodeRow.oraDpil OpcodeRow.oraImmm OpcodeRow.tsbAbs OpcodeRow.oraAbs OpcodeRow.aslAbs OpcodeRow.oraAlng OpcodeRow.bpl
    OpcodeRow.oraDpiy OpcodeRow.oraDpgi OpcodeRow.oraSriy OpcodeRow.trbDpag OpcodeRow.oraDpgx OpcodeRow.aslDpgx
    OpcodeRow.oraDily OpcodeRow.oraAbsy OpcodeRow.trbAbs OpcodeRow.oraAbsx OpcodeRow.aslAbsx OpcodeRow.oraAlnx
    OpcodeRow.jsrAbs OpcodeRow.andDpix OpcodeRow.jsl OpcodeRow.andSrel OpcodeRow.bitDpag OpcodeRow.andDpag OpcodeRow.rolDpag
    OpcodeRow.andDpil OpcodeRow.andImmm OpcodeRow.bitAbs OpcodeRow.andAbs OpcodeRow.rolAbs OpcodeRow.andAlng OpcodeRow.bmi
    OpcodeRow.andDpiy OpcodeRow.andDpgi OpcodeRow.andSriy OpcodeRow.bitDpgx OpcodeRow.andDpgx OpcodeRow.rolDpgx
    OpcodeRow.andDily OpcodeRow.andAbsy OpcodeRow.bitAbsx OpcodeRow.andAbsx OpcodeRow.rolAbsx OpcodeRow.andAlnx
    OpcodeRow.eorDpix OpcodeRow.wdm OpcodeRow.eorSrel OpcodeRow.mvp OpcodeRow.eorDpag OpcodeRow.lsrDpag OpcodeRow.eorDpil
    OpcodeRow.eorImmm OpcodeRow.jmpAbs OpcodeRow.eorAbs OpcodeRow.lsrAbs OpcodeRow.eorAlng OpcodeRow.bvc OpcodeRow.eorDpiy
    OpcodeRow.eorDpgi OpcodeRow.eorSriy OpcodeRow.mvn OpcodeRow.eorDpgx OpcodeRow.lsrDpgx OpcodeRow.eorDily OpcodeRow.eorAbsy
    OpcodeRow.jmpAlng OpcodeRow.eorAbsx OpcodeRow.lsrAbsx OpcodeRow.eorAlnx OpcodeRow.adcDpix OpcodeRow.per OpcodeRow.adcSrel
    OpcodeRow.stzDpag OpcodeRow.adcDpag OpcodeRow.rorDpag OpcodeRow.adcDpil OpcodeRow.adcImmm OpcodeRow.jmpAbsi
    OpcodeRow.adcAbs OpcodeRow.rorAbs OpcodeRow.adcAlng OpcodeRow.bvs OpcodeRow.adcDpiy OpcodeRow.adcDpgi OpcodeRow.adcSriy
    OpcodeRow.stzDpgx OpcodeRow.adcDpgx OpcodeRow.rorDpgx OpcodeRow.adcDily OpcodeRow.adcAbsy OpcodeRow.jmpAbxi
    OpcodeRow.adcAbsx OpcodeRow.rorAbsx OpcodeRow.adcAlnx OpcodeRow.bra OpcodeRow.staDpix OpcodeRow.brl OpcodeRow.staSrel
    OpcodeRow.styDpag OpcodeRow.staDpag OpcodeRow.stxDpag OpcodeRow.staDpil OpcodeRow.bitImmm OpcodeRow.styAbs
    OpcodeRow.staAbs OpcodeRow.stxAbs OpcodeRow.staAlng OpcodeRow.bcc OpcodeRow.staDpiy OpcodeRow.staDpgi OpcodeRow.staSriy
    OpcodeRow.styDpgx OpcodeRow.staDpgx OpcodeRow.stxDpgy OpcodeRow.staDily OpcodeRow.staAbsy OpcodeRow.stzAbs
    OpcodeRow.staAbsx OpcodeRow.stzAbsx OpcodeRow.staAlnx OpcodeRow.ldyImmx OpcodeRow.ldaDpix OpcodeRow.ldxImmx
    OpcodeRow.ldaSrel OpcodeRow.ldyDpag OpcodeRow.ldaDpag OpcodeRow.ldxDpag OpcodeRow.ldaDpil OpcodeRow.ldaImmm
    OpcodeRow.ldyAbs OpcodeRow.ldaAbs OpcodeRow.ldxAbs OpcodeRow.ldaAlng OpcodeRow.bcs OpcodeRow.ldaDpiy OpcodeRow.ldaDpgi
    OpcodeRow.ldaSriy OpcodeRow.ldyDpgx OpcodeRow.ldaDpgx OpcodeRow.ldxDpgy OpcodeRow.ldaDily OpcodeRow.ldaAbsy
    OpcodeRow.ldyAbsx OpcodeRow.ldaAbsx OpcodeRow.ldxAbsy OpcodeRow.ldaAlnx OpcodeRow.cpyImmx OpcodeRow.cmpDpix OpcodeRow.rep
    OpcodeRow.cmpSrel OpcodeRow.cpyDpag OpcodeRow.cmpDpag OpcodeRow.decDpag OpcodeRow.cmpDpil OpcodeRow.cmpImmm
    OpcodeRow.cpyAbs OpcodeRow.cmpAbs OpcodeRow.decAbs OpcodeRow.cmpAlng OpcodeRow.bne OpcodeRow.cmpDpiy OpcodeRow.cmpDpgi
    OpcodeRow.cmpSriy OpcodeRow.pei OpcodeRow.cmpDpgx OpcodeRow.decDpgx OpcodeRow.cmpDily OpcodeRow.cmpAbsy OpcodeRow.jmpAbil
    OpcodeRow.cmpAbsx OpcodeRow.decAbsx OpcodeRow.cmpAlnx OpcodeRow.cpxImmx OpcodeRow.sbcDpix OpcodeRow.sep OpcodeRow.sbcSrel
    OpcodeRow.cpxDpag OpcodeRow.sbcDpag OpcodeRow.incDpag OpcodeRow.sbcDpil OpcodeRow.sbcImmm OpcodeRow.cpxAbs
    OpcodeRow.sbcAbs OpcodeRow.incAbs OpcodeRow.sbcAlng OpcodeRow.beq OpcodeRow.sbcDpiy OpcodeRow.sbcDpgi OpcodeRow.sbcSriy
    OpcodeRow.pea OpcodeRow.sbcDpgx OpcodeRow.incDpgx OpcodeRow.sbcDily OpcodeRow.sbcAbsy OpcodeRow.jsrAbxi OpcodeRow.sbcAbsx
    OpcodeRow.incAbsx OpcodeRow.sbcAlnx OpcodeRow.php OpcodeRow.aslAcc OpcodeRow.phd OpcodeRow.clc OpcodeRow.incAcc
    OpcodeRow.tcs OpcodeRow.plp OpcodeRow.rolAcc OpcodeRow.pld OpcodeRow.sec OpcodeRow.decAcc OpcodeRow.tsc OpcodeRow.rti
    OpcodeRow.pha OpcodeRow.lsrAcc OpcodeRow.phk OpcodeRow.cli OpcodeRow.phy OpcodeRow.tcd OpcodeRow.rts OpcodeRow.pla
    OpcodeRow.rorAcc OpcodeRow.rtl OpcodeRow.sei OpcodeRow.ply OpcodeRow.tdc OpcodeRow.dey OpcodeRow.txa OpcodeRow.phb
    OpcodeRow.tya OpcodeRow.txs OpcodeRow.txy OpcodeRow.tay OpcodeRow.tax OpcodeRow.plb OpcodeRow.clv OpcodeRow.tsx
    OpcodeRow.tyx OpcodeRow.iny OpcodeRow.dex OpcodeRow.wai OpcodeRow.cld OpcodeRow.phx OpcodeRow.stp OpcodeRow.inx
    OpcodeRow.nop OpcodeRow.xba OpcodeRow.sed OpcodeRow.plx OpcodeRow.xce
    i

/-- What the opcode map says of a mnemonic's forms at one opcode. -/
def tableSays (op : Op) (forms : List (Byte × Mode)) (n : Nat) : Bool :=
  match opcodeEntry (BitVec.ofNat 8 n) with
  | none => true
  | some (o, m) => decide (o = op ↔ (BitVec.ofNat 8 n, m) ∈ forms)

/-- A mnemonic's forms, read off the opcode map. -/
theorem encodes_of_table {op : Op} {forms : List (Byte × Mode)} (h : (List.range 256).all (tableSays op forms) = true) :
    Encodes op forms := by
  intro i
  have h := List.all_eq_true.mp h i.opcode.toNat (List.mem_range.mpr i.opcode.isLt)
  simp only [tableSays, BitVec.ofNat_toNat, BitVec.setWidth_eq, opcodeEntry_opcode, decide_eq_true_eq] at h
  exact h

end Sys2Proof.Machine
end

