-- ==== Sys2Proof/Laws/Flags.lean ====
section
/-! SUPPORT. Laws of the status register: each flag after each operation that writes P, and the writes of A, X and Y at their width. -/

namespace Sys2Proof.Machine.State

variable (s : State)

theorem flag_setFlag (f g : Flag) (b : Bool) : (s.setFlag f b).flag g = if g = f then b else s.flag g := by
  simp only [flag, setFlag]
  rw [getLsbD_setBit _ _ _ _ (by cases f <;> simp [Flag.bit])]
  cases f <;> cases g <;> simp [Flag.bit]

@[simp] theorem flag_setFlag_same (f : Flag) (b : Bool) : (s.setFlag f b).flag f = b := by simp [flag_setFlag]

theorem flag_setFlag_other {f g : Flag} (b : Bool) (h : g ≠ f) : (s.setFlag f b).flag g = s.flag g := by
  simp [flag_setFlag, h]

/-- Each flag after `SetNZ` (spec/10_state.md R36). -/
theorem flag_setNZ (n : Bool) (v : Word) (g : Flag) :
    (s.setNZ n v).flag g = match g with | .n => signBit n v | .z => isZero n v | g => s.flag g := by
  cases g <;> simp [setNZ, flag_setFlag]

/-- `SetNZ` sets N and Z as a statement asks, and keeps the other flags. -/
theorem setNZ_setsNZ (n : Bool) (v : Word) : SetsNZ n v (s.setNZ n v) :=
  ⟨by rw [flag_setNZ], by rw [flag_setNZ]; exact isZero_iff n v⟩

theorem setNZ_keepsFlags (n : Bool) (v : Word) : KeepsFlags [.n, .z] s (s.setNZ n v) := by
  intro g hg
  rw [flag_setNZ]
  cases g <;> simp at hg ⊢

/-- `SetsNZ` looks at the value at its width alone. -/
theorem setsNZ_of_clip_eq {n : Bool} {v w : Word} {t : State} (e : clip n v = clip n w) (h : SetsNZ n v t) : SetsNZ n w t := by
  refine ⟨h.1.trans ?_, by rw [h.2, e]⟩
  rw [← signBit_clip, e, signBit_clip]

/-- The accumulator written at a width, read at that width. -/
@[simp] theorem clip_writeA (n : Bool) (v : Word) : clip n (s.writeA n v).a = clip n v := by cases n <;> simp

/-- The accumulator's high byte after an 8-bit write. -/
@[simp] theorem hi_writeA_true (v : Word) : hi (s.writeA true v).a = hi s.a := by simp

/-- N and Z after a register is written at a width and `SetNZ` follows, in terms of the register. -/
theorem writeA_setNZ_setsNZ (n : Bool) (v : Word) : SetsNZ n ((s.writeA n v).setNZ n v).a ((s.writeA n v).setNZ n v) :=
  setsNZ_of_clip_eq (by rw [setNZ_a, clip_writeA]) (setNZ_setsNZ _ n v)

theorem writeX_setNZ_setsNZ (n : Bool) (v : Word) : SetsNZ n ((s.writeX n v).setNZ n v).x ((s.writeX n v).setNZ n v) :=
  setsNZ_of_clip_eq (by rw [setNZ_x, writeX_x, clip_clip]) (setNZ_setsNZ _ n v)

theorem writeY_setNZ_setsNZ (n : Bool) (v : Word) : SetsNZ n ((s.writeY n v).setNZ n v).y ((s.writeY n v).setNZ n v) :=
  setsNZ_of_clip_eq (by rw [setNZ_y, writeY_y, clip_clip]) (setNZ_setsNZ _ n v)

/-- Each flag after the adder (spec/42_alu.md R170). -/
theorem flag_setAddFlags (n : Bool) (r : AddResult) (g : Flag) :
    (s.setAddFlags n r).flag g = match g with
      | .c => r.carry | .v => r.overflow | .n => signBit n r.value | .z => isZero n r.value | g => s.flag g := by
  cases g <;> simp [setAddFlags, flag_setNZ, flag_setFlag]

/-- Each flag after a compare (spec/42_alu.md R176). -/
theorem flag_compare (n : Bool) (r d : Word) (g : Flag) :
    (s.compare n r d).flag g = match g with
      | .c => decide ((clip n d).toNat ≤ (clip n r).toNat)
      | .n => signBit n (clip n r - clip n d) | .z => isZero n (clip n r - clip n d) | g => s.flag g := by
  cases g <;> simp [compare, flag_setNZ, flag_setFlag]

/-- Each flag after a read-modify-write (spec/43_shift_incdec.md R200). -/
theorem flag_setRmwFlags (n : Bool) (r : RmwResult) (g : Flag) :
    (s.setRmwFlags n r).flag g = match g with
      | .c => r.carry.getD (s.flag .c) | .n => signBit n r.value | .z => isZero n r.value | g => s.flag g := by
  obtain ⟨c, v⟩ := r
  have h : ∀ t : State, ({ s with p := t.p } : State).flag g = t.flag g := fun _ => rfl
  cases c <;> simp only [setRmwFlags, h, flag_setNZ] <;> cases g <;> simp [flag_setFlag]

/-- Each flag after `SetP` (spec/10_state.md R37). -/
theorem flag_setP (v : Byte) (g : Flag) :
    (s.setP v).flag g = if s.e = true ∧ (g = .m ∨ g = .x) then true else v.getLsbD g.bit := by
  cases he : s.e <;> cases g <;> simp [setP, flag, he, Flag.bit]

/-- `SetP` does what a statement asks of it. -/
theorem setP_setsP (v : Byte) : SetsP v s (s.setP v) := by
  refine ⟨flag_setP s v, ?_, ?_⟩ <;> rfl

/-! ### Flags and widths after operations that write no flag -/

@[simp] theorem flag_writeA (n : Bool) (v : Word) (f : Flag) : (s.writeA n v).flag f = s.flag f := rfl
@[simp] theorem flag_writeX (n : Bool) (v : Word) (f : Flag) : (s.writeX n v).flag f = s.flag f := rfl
@[simp] theorem flag_writeY (n : Bool) (v : Word) (f : Flag) : (s.writeY n v).flag f = s.flag f := rfl
@[simp] theorem flag_writeSized (n : Bool) (a : Addr) (v : Word) (f : Flag) : (s.writeSized n a v).flag f = s.flag f := rfl

end Sys2Proof.Machine.State
end

