-- ==== Sys2Proof/Laws/Memory.lean ====
section
/-! SUPPORT. Laws of memory: a byte written is read back, other bytes are kept, and every write keeps the canonical form. -/

namespace Sys2Proof

namespace Memory

theorem read_erase_same (m : Memory) (a : Nat) : (m.erase a).read a = unlistedByte := by
  induction m with
  | nil => rfl
  | cons c m ih => by_cases h : c.1 = a <;> simp [erase, read, h, ih]

theorem read_erase_other (m : Memory) {a b : Nat} (hab : b ≠ a) : (m.erase a).read b = m.read b := by
  induction m with
  | nil => rfl
  | cons c m ih =>
    by_cases h : c.1 = a
    · have hb : c.1 ≠ b := fun e => hab (e.symm.trans h)
      simp only [erase, if_pos h, read, if_neg hb, ih]
    · simp only [erase, if_neg h, read, ih]

theorem read_insert_same (m : Memory) (a : Nat) (b : Byte) (hm : ∀ c ∈ m, c.1 ≠ a) : (m.insert (a, b)).read a = b := by
  induction m with
  | nil => simp [insert, read]
  | cons c m ih =>
    have hc : c.1 ≠ a := hm c (by simp)
    unfold insert
    split
    · simp [read]
    · rw [read, if_neg hc]
      exact ih fun d hd => hm d (by simp [hd])

theorem read_insert_other (m : Memory) (c : Host.Cell) {a : Nat} (h : a ≠ c.1) : (m.insert c).read a = m.read a := by
  induction m with
  | nil => simp [insert, read, h.symm]
  | cons d m ih =>
    unfold insert
    split
    · rw [read, if_neg h.symm]
    · simp only [read, ih]

theorem mem_erase {m : Memory} {a : Nat} {c : Host.Cell} : c ∈ m.erase a ↔ c ∈ m ∧ c.1 ≠ a := by
  induction m with
  | nil => simp [erase]
  | cons d m ih =>
    by_cases h : d.1 = a
    · simp only [erase, if_pos h, ih, List.mem_cons]
      constructor
      · rintro ⟨hc, hn⟩
        exact ⟨.inr hc, hn⟩
      · rintro ⟨rfl | hc, hn⟩
        · exact absurd h hn
        · exact ⟨hc, hn⟩
    · simp only [erase, if_neg h, List.mem_cons, ih]
      constructor
      · rintro (rfl | ⟨hc, hn⟩)
        · exact ⟨.inl rfl, h⟩
        · exact ⟨.inr hc, hn⟩
      · rintro ⟨rfl | hc, hn⟩
        · exact .inl rfl
        · exact .inr ⟨hc, hn⟩

theorem mem_insert {m : Memory} {c d : Host.Cell} : d ∈ m.insert c ↔ d = c ∨ d ∈ m := by
  induction m with
  | nil => simp [insert]
  | cons e m ih =>
    unfold insert
    split
    · simp
    · simp only [List.mem_cons, ih]
      tauto

/-- A byte written is read back. -/
@[simp] theorem read_write_same (m : Memory) (a : Nat) (b : Byte) : (m.write a b).read a = b := by
  unfold write
  split
  · rw [read_erase_same, ‹b = unlistedByte›]
  · exact read_insert_same _ _ _ fun c hc => (mem_erase.mp hc).2

/-- A write leaves every other byte alone. -/
theorem read_write_other (m : Memory) {a c : Nat} (b : Byte) (h : c ≠ a) : (m.write a b).read c = m.read c := by
  unfold write
  split
  · exact read_erase_other m h
  · rw [read_insert_other _ _ h, read_erase_other m h]

theorem mem_write {m : Memory} {a : Nat} {b : Byte} {c : Host.Cell} (h : c ∈ m.write a b) : c.1 = a ∨ c ∈ m := by
  unfold write at h
  split at h
  · exact .inr (mem_erase.mp h).1
  · rcases mem_insert.mp h with rfl | h
    · exact .inl rfl
    · exact .inr (mem_erase.mp h).1

theorem wf_nil : wf [] := by simp [wf]

theorem wf_erase {m : Memory} (h : m.wf) (a : Nat) : (m.erase a).wf := by
  refine ⟨?_, fun c hc => h.2 c (mem_erase.mp hc).1⟩
  have hs : (m.erase a).Sublist m := by
    clear h
    induction m with
    | nil => exact .slnil
    | cons c m ih =>
      unfold erase
      split
      · exact ih.cons c
      · exact ih.cons_cons c
  exact h.1.sublist hs

theorem wf_insert {m : Memory} {c : Host.Cell} (h : m.wf) (hc : c.2 ≠ unlistedByte) (hn : ∀ d ∈ m, d.1 ≠ c.1) :
    (m.insert c).wf := by
  induction m with
  | nil => simp [insert, wf, hc]
  | cons d m ih =>
    have hd := List.pairwise_cons.mp h.1
    unfold insert
    split
    · rename_i hlt
      refine ⟨List.pairwise_cons.mpr ⟨?_, h.1⟩, ?_⟩
      · intro e he
        rcases List.mem_cons.mp he with rfl | he
        · exact hlt
        · exact lt_trans hlt (hd.1 e he)
      · intro e he
        rcases List.mem_cons.mp he with rfl | he
        · exact hc
        · exact h.2 e he
    · rename_i hlt
      have hdc : d.1 < c.1 := lt_of_le_of_ne (not_lt.mp hlt) (hn d (by simp))
      have ih := ih ⟨hd.2, fun e he => h.2 e (by simp [he])⟩ fun e he => hn e (by simp [he])
      refine ⟨List.pairwise_cons.mpr ⟨?_, ih.1⟩, ?_⟩
      · intro e he
        rcases mem_insert.mp he with rfl | he
        · exact hdc
        · exact hd.1 e he
      · intro e he
        rcases List.mem_cons.mp he with rfl | he
        · exact h.2 e (by simp)
        · exact ih.2 e he

/-- Every write keeps the canonical form. -/
theorem wf_write {m : Memory} (h : m.wf) (a : Nat) (b : Byte) : (m.write a b).wf := by
  unfold write
  split
  · exact wf_erase h a
  · exact wf_insert (wf_erase h a) ‹_› fun d hd => (mem_erase.mp hd).2

end Memory

namespace Config

variable (c : Config) (m : Memory) (a b : Addr) (v : Byte)

/-- The index of an address is `addr & MASK` as the spec writes it (spec/20_memory.md R62). -/
theorem index_eq_and : c.index a = a.toNat &&& c.mask := by
  rw [index, mask, Nat.and_two_pow_sub_one_eq_mod]

/-- A byte of the ROM region is no byte of memory, so no write changes it. -/
theorem readByte_rom (h : c.ramSize ≤ c.index a) : c.readByte m a = c.rom.read (c.index a - c.ramSize) := by
  rw [readByte, if_neg (by omega)]

theorem writeByte_rom (h : c.ramSize ≤ c.index a) : c.writeByte m a v = m := by
  rw [writeByte, if_neg (by omega)]

/-- A byte written to RAM is read back at every address of its index. -/
theorem readByte_writeByte_same (h : c.index a < c.ramSize) (e : c.index b = c.index a) :
    c.readByte (c.writeByte m a v) b = v := by
  simp [readByte, writeByte, e, h]

/-- A write leaves every byte of another index alone. -/
theorem readByte_writeByte_other (h : c.index b ≠ c.index a) : c.readByte (c.writeByte m a v) b = c.readByte m b := by
  unfold readByte
  split
  · unfold writeByte
    split
    · exact Memory.read_write_other _ _ h
    · rfl
  · rfl

/-- A write keeps the canonical form and lists no index beyond RAM. -/
theorem writeByte_inForm (h : m.wf) (hr : ∀ d ∈ m, d.1 < c.ramSize) :
    (c.writeByte m a v).wf ∧ ∀ d ∈ c.writeByte m a v, d.1 < c.ramSize := by
  unfold writeByte
  split
  · refine ⟨Memory.wf_write h _ _, fun d hd => ?_⟩
    rcases Memory.mem_write hd with e | hd
    · omega
    · exact hr d hd
  · exact ⟨h, hr⟩

end Config

end Sys2Proof
end

