-- ==== Sys2Proof/Laws/Operands.lean ====
section
/-! SUPPORT. Laws of operand values and of the read-modify-write frame. -/

namespace Sys2Proof.Machine

/-- An operand's value fits the width it is read at; the operand byte of mode IMMB is 8 bits at any width. -/
theorem State.clip_operandValue (n : Bool) (s : State) (o : Operand) (ea : Addr) (h : o.mode ≠ .immb) :
    clip n (s.operandValue n o ea) = s.operandValue n o ea := by
  cases n <;> cases o <;> simp_all [State.operandValue, State.readSized, Operand.mode]

/-- A sized read fits its width. -/
@[simp] theorem State.clip_readSized (n : Bool) (s : State) (a : Addr) : clip n (s.readSized n a) = s.readSized n a := by
  cases n <;> simp [State.readSized]

/-- The accumulator form of a read-modify-write. -/
theorem rmw_acc (f : Bool → Bool → Word → RmwResult) (o : Operand) (ea : Addr) (s : State) (h : o.mode = .acc) :
    rmw f o ea s = (s.writeA s.m8 (f s.m8 (s.flag .c) (clip s.m8 s.a)).value).setRmwFlags s.m8
      (f s.m8 (s.flag .c) (clip s.m8 s.a)) := by
  simp only [rmw, if_pos h]

/-- The memory form of a read-modify-write. -/
theorem rmw_mem (f : Bool → Bool → Word → RmwResult) (o : Operand) (ea : Addr) (s : State) (h : o.mode ≠ .acc) :
    rmw f o ea s = (s.writeSized s.m8 ea (f s.m8 (s.flag .c) (s.readSized s.m8 ea)).value).setRmwFlags s.m8
      (f s.m8 (s.flag .c) (s.readSized s.m8 ea)) := by
  simp only [rmw, if_neg h]

end Sys2Proof.Machine
end

