-- ==== Sys2Proof/Laws/Reset.lean ====
section
/-! SUPPORT. The machine after reset is the machine at power-on after the reset operation. -/

namespace Sys2Proof.Machine

/-- `State.reset` is what the reset operation leaves of the state at power-on (spec/10_state.md R41). -/
theorem State.reset_eq_hostReset : State.reset = State.powerOn.hostReset := rfl

/-- Reset's memory lists nothing, so it is in canonical form. -/
theorem State.reset_memoryInForm : State.reset.memoryInForm := ⟨by simp [State.reset, State.powerOn, Memory.wf], by simp [State.reset, State.powerOn]⟩

end Sys2Proof.Machine
end

