-- ==== Sys2Proof/Laws/Stack.lean ====
section
/-! SUPPORT. Laws of memory access at a state and of the stack: what a sized write stores, what pushes and pulls do. -/

namespace Sys2Proof.Machine

/-- The stack pointer after a push and a pull is as before, in either mode. -/
@[simp] theorem spUp_spDown (e : Bool) (sp : Word) : State.spUp e (State.spDown e sp) = sp := by
  cases e
  · simp [State.spUp, State.spDown]
  · simp [State.spUp, State.spDown]

@[simp] theorem spDown_spUp (e : Bool) (sp : Word) : State.spDown e (State.spUp e sp) = sp := by
  cases e
  · simp [State.spUp, State.spDown]
  · simp [State.spUp, State.spDown]

/-- In emulation mode neither direction leaves the page. -/
@[simp] theorem hi_spDown_emulation (sp : Word) : hi (State.spDown true sp) = hi sp := by simp [State.spDown]
@[simp] theorem hi_spUp_emulation (sp : Word) : hi (State.spUp true sp) = hi sp := by simp [State.spUp]

namespace State

variable (s : State)

theorem readByte_of_mem {s t : State} (hc : t.cfg = s.cfg) (hm : t.mem = s.mem) (a : Addr) : t.readByte a = s.readByte a := by
  rw [readByte, readByte, hc, hm]

theorem keepsMemory_of_mem {s t : State} (hc : t.cfg = s.cfg) (hm : t.mem = s.mem) : KeepsMemory s t :=
  readByte_of_mem hc hm

/-- A push stores one byte at `0x00:SP`. -/
@[simp] theorem push8_mem (v : Byte) : (s.push8 v).mem = s.cfg.writeByte s.mem (addrOf 0x00 s.sp) v := rfl

theorem writeSized_mem_true (a : Addr) (v : Word) : (s.writeSized true a v).mem = s.cfg.writeByte s.mem a (lo v) := rfl

theorem writeSized_mem_false (a : Addr) (v : Word) :
    (s.writeSized false a v).mem = s.cfg.writeByte (s.cfg.writeByte s.mem a (lo v)) (a + 1) (hi v) := rfl

/-- A sized write stores its value and nothing else. -/
theorem writeSized_stored (n : Bool) (a : Addr) (v : Word) : Stored n a v s (s.writeSized n a v) := by
  have hr : ∀ b, (s.writeSized n a v).readByte b = s.cfg.readByte (s.writeSized n a v).mem b := fun _ => rfl
  cases n
  · refine ⟨fun b hb => ?_, fun b hb => ?_, fun h hn => ?_, fun _ h => ?_⟩ <;> rw [hr, writeSized_mem_false]
    · have h0 := hb 0 (by simp [accessSize])
      have h1 := hb 1 (by simp [accessSize])
      rw [Config.readByte_writeByte_other _ _ _ _ _ (by simpa using h1),
        Config.readByte_writeByte_other _ _ _ _ _ (by simpa using h0)]
      rfl
    · rw [Config.readByte_rom _ _ _ hb, readByte, Config.readByte_rom _ _ _ hb]
    · rw [Config.readByte_writeByte_other _ _ _ _ _ (by simpa using (hn.resolve_left (by simp)).symm),
        Config.readByte_writeByte_same _ _ _ _ _ h rfl]
    · rw [Config.readByte_writeByte_same _ _ _ _ _ h rfl]
  · refine ⟨fun b hb => ?_, fun b hb => ?_, fun h _ => ?_, fun h => absurd h (by simp)⟩ <;> rw [hr, writeSized_mem_true]
    · rw [Config.readByte_writeByte_other _ _ _ _ _ (by simpa using hb 0 (by simp [accessSize]))]
      rfl
    · rw [Config.readByte_rom _ _ _ hb, readByte, Config.readByte_rom _ _ _ hb]
    · rw [Config.readByte_writeByte_same _ _ _ _ _ h rfl]

/-- Only the stored bytes and the operation's own fields matter to `Stored`. -/
theorem stored_of_mem {n : Bool} {a : Addr} {v : Word} {s s' t t' : State} (h : Stored n a v s t)
    (hs : s'.mem = s.mem) (ht : t'.mem = t.mem) (hsc : s'.cfg = s.cfg) (htc : t'.cfg = t.cfg) : Stored n a v s' t' := by
  have rs := readByte_of_mem hsc hs
  have rt := readByte_of_mem htc ht
  refine ⟨fun b hb => ?_, fun b hb => ?_, fun h1 h2 => ?_, fun h1 h2 => ?_⟩
  · rw [rs, rt]
    exact h.1 b fun k hk => by simpa [hsc] using hb k hk
  · rw [rs, rt]
    exact h.2.1 b (by simpa [hsc] using hb)
  · rw [rt]
    exact h.2.2.1 (by simpa [hsc] using h1) (by simpa [hsc] using h2)
  · rw [rt]
    exact h.2.2.2 h1 (by simpa [hsc] using h2)

/-! ### Pushes -/

/-- `slot` counts from any state of the same SP and mode. -/
theorem slot_congr {s t : State} (he : t.e = s.e) (hsp : t.sp = s.sp) (k : Nat) : t.slot k = s.slot k := by
  induction k with
  | zero => exact hsp
  | succ k ih => rw [slot, slot, ih, he]

theorem slot_succ (k : Nat) : s.slot (k + 1) = State.spDown s.e (s.slot k) := rfl

/-- The slot after the first is the slot of the state after a push. -/
theorem slot_push8 (v : Byte) (k : Nat) : (s.push8 v).slot k = s.slot (k + 1) := by
  induction k with
  | zero => rfl
  | succ k ih => rw [slot, slot, ih, push8_e]

/-- Nothing pushed. -/
theorem pushed_nil (s : State) : Pushed [] s s := ⟨rfl, fun _ _ => rfl, fun _ _ => rfl, by simp⟩

/-- One more byte pushed. -/
theorem pushed_push8 {bytes : List Byte} {s t : State} (h : Pushed bytes s t) (hc : t.cfg = s.cfg) (he : t.e = s.e)
    (b : Byte) : Pushed (bytes ++ [b]) s (t.push8 b) := by
  have hr : ∀ a, (t.push8 b).readByte a = s.cfg.readByte (s.cfg.writeByte t.mem (addrOf 0x00 (s.slot bytes.length)) b) a := by
    intro a
    rw [← h.1, ← hc]
    rfl
  have ht : ∀ a, t.readByte a = s.cfg.readByte t.mem a := fun a => by rw [← hc]; rfl
  refine ⟨?_, fun a ha => ?_, fun a ha => ?_, fun k c hk hlt hlater => ?_⟩
  · rw [push8_sp, h.1, he, List.length_append, List.length_singleton, slot_succ]
  · rw [hr, Config.readByte_writeByte_other _ _ _ _ _ (ha _ (by simp)), ← ht]
    exact h.2.1 a fun k hk => ha k (by simp; omega)
  · rw [hr, Config.readByte_rom _ _ _ ha, readByte, Config.readByte_rom _ _ _ ha]
  · have hlen : k < (bytes ++ [b]).length := by
      by_contra hn
      rw [List.getElem?_eq_none (by omega)] at hk
      simp at hk
    rw [List.length_append, List.length_singleton] at hlen
    rw [hr]
    by_cases hkl : k = bytes.length
    · subst hkl
      rw [Config.readByte_writeByte_same _ _ _ _ _ hlt rfl]
      simpa using hk
    · rw [Config.readByte_writeByte_other _ _ _ _ _ (hlater _ (by omega) (by simp)).symm, ← ht]
      refine h.2.2.2 k c ?_ hlt fun j h1 h2 => hlater j h1 (by simp; omega)
      rwa [List.getElem?_append_left (by omega)] at hk

/-- `Pushed` looks at SP, memory, the mode and the configuration alone. -/
theorem pushed_of_mem {bytes : List Byte} {s s' t t' : State} (h : Pushed bytes s t) (hs : s'.mem = s.mem)
    (hsp : s'.sp = s.sp) (he : s'.e = s.e) (hsc : s'.cfg = s.cfg) (ht : t'.mem = t.mem) (htp : t'.sp = t.sp)
    (htc : t'.cfg = t.cfg) : Pushed bytes s' t' := by
  have rs := readByte_of_mem hsc hs
  have rt := readByte_of_mem htc ht
  have sl : ∀ k, s'.slot k = s.slot k := slot_congr he hsp
  refine ⟨by rw [htp, sl]; exact h.1, fun a ha => ?_, fun a ha => ?_, fun k b hk hlt hj => ?_⟩
  · rw [rs, rt]
    exact h.2.1 a fun k hk => by simpa [hsc, sl] using ha k hk
  · rw [rs, rt]
    exact h.2.2.1 a (by simpa [hsc] using ha)
  · rw [rt, sl]
    exact h.2.2.2 k b hk (by simpa [hsc, sl] using hlt) fun j h1 h2 => by simpa [hsc, sl] using hj j h1 h2

theorem push8_pushed (v : Byte) : Pushed [v] s (s.push8 v) := pushed_push8 (pushed_nil s) rfl rfl v

theorem push16_pushed (v : Word) : Pushed [hi v, lo v] s (s.push16 v) := pushed_push8 (push8_pushed s (hi v)) rfl rfl (lo v)

theorem pushSized_pushed (n : Bool) (v : Word) : Pushed (pushBytes n v) s (s.pushSized n v) := by
  cases n
  · exact push16_pushed s v
  · exact push8_pushed s (lo v)

/-- The frame an entry pushes (spec/60_exceptions.md R333). -/
theorem pushFrame_pushed : Pushed ((if s.e then [] else [s.pbr]) ++ [hi s.pc, lo s.pc, s.p]) s s.pushFrame := by
  unfold pushFrame
  by_cases he : s.e = true
  · simp only [he, if_true, List.nil_append]
    exact pushed_push8 (push16_pushed s s.pc) rfl rfl s.p
  · simp only [he]
    exact pushed_push8 (pushed_push8 (pushed_push8 (push8_pushed s s.pbr) rfl rfl (hi s.pc)) rfl rfl (lo s.pc)) rfl rfl s.p

/-! ### Pulls -/

theorem pulledSp_congr {s t : State} (he : t.e = s.e) (hsp : t.sp = s.sp) (k : Nat) : t.pulledSp k = s.pulledSp k := by
  induction k with
  | zero => exact hsp
  | succ k ih => rw [pulledSp, pulledSp, ih, he]

theorem pull8_value : s.pull8.1 = s.pulledByte 0 := rfl

theorem pull16_value : s.pull16.1 = s.pulledValue false := rfl

theorem pullSized_value (n : Bool) : (s.pullSized n).1 = s.pulledValue n := by cases n <;> rfl

theorem pullSized_sp (n : Bool) : (s.pullSized n).2.sp = s.pulledSp (accessSize n) := by cases n <;> rfl

end State

end Sys2Proof.Machine
end

