-- ==== Sys2Proof/Laws/Step.lean ====
section
/-! SUPPORT. Laws of `step`: everything a step can do, said once. -/

namespace Sys2Proof.Machine

/-- A step that answers a next state ran the instruction at PC, at the state the host left, in a configuration the spec accepts. -/
theorem step_cases {s t : State} (h : step s = .next t) :
    s.cfg.wf = true ∧ s.hostBoundary.halted = false ∧ exec s.hostBoundary.fetchInstr s.hostBoundary = .next t := by
  unfold step at h
  split at h
  · split at h
    · simp at h
    · exact ⟨‹_›, by simpa using ‹¬ s.hostBoundary.halted = true›, h⟩
  · simp at h

theorem step_of_running {s : State} (hc : s.cfg.wf = true) (hh : s.hostBoundary.halted = false) :
    step s = exec s.hostBoundary.fetchInstr s.hostBoundary := by
  simp [step, hc, hh]

theorem step_of_halted {s : State} (hc : s.cfg.wf = true) (hh : s.hostBoundary.halted = true) : step s = .fault .halted := by
  simp [step, hc, hh]

theorem State.hostBoundary_nil {s : State} (h : s.host = []) : s.hostBoundary = s := by
  unfold State.hostBoundary
  rw [h]

/-- The host writes neither memory nor the configuration. -/
@[simp] theorem State.hostBoundary_cfg (s : State) : s.hostBoundary.cfg = s.cfg := by
  unfold State.hostBoundary
  split
  · rfl
  · dsimp only
    split <;> rfl

@[simp] theorem State.hostBoundary_mem (s : State) : s.hostBoundary.mem = s.mem := by
  unfold State.hostBoundary
  split
  · rfl
  · dsimp only
    split <;> rfl

/-- What decoding four bytes answers: the instruction those bytes select. -/
theorem decode_four {m8 x8 : Bool} {b0 b1 b2 b3 : Byte} {i : Instr} {rest : List Byte}
    (h : decode m8 x8 [b0, b1, b2, b3] = .ok (i, rest)) : decodeBytes m8 x8 b0 b1 b2 b3 = i := by
  unfold decode at h
  dsimp only at h
  split at h
  · injection h with h
    injection h
  · simp at h

/-- The bytes at PC decode to the instruction fetched. -/
theorem State.fetchInstr_of_decode {s : State} {i : Instr} {rest : List Byte}
    (h : decode s.m8 s.x8 s.fetchBytes = .ok (i, rest)) : s.fetchInstr = i := decode_four h

end Sys2Proof.Machine
end

