-- ==== Sys2Proof/Tests/Slice0.lean ====
section
/-! SUPPORT. The model's own tests. Expected results come from the spec's opcode map (spec/30_encoding.md R94) and from its vectors (spec/95_test_vectors.md), never from the model. -/

namespace Sys2Proof.Tests

open Sys2Proof Sys2Proof.Machine

/-! ### Well-formedness (spec/30_encoding.md R93) -/

theorem test_wf_refuses_a_wide_immm : (Instr.ldaImmm 0x1234).wf true true = false := by decide
theorem test_wf_refuses_a_wide_immx : (Instr.ldxImmx 0x0100).wf false true = false := by decide
theorem test_wf_accepts_sixteen_bit_immediates : (Instr.ldaImmm 0x1234).wf false true && (Instr.ldxImmx 0xFFFF).wf true false := by
  decide
theorem test_wf_accepts_eight_bit_immediates : (Instr.ldaImmm 0x00FF).wf true true && (Instr.cpyImmx 0x00FF).wf true true := by
  decide

/-! ### Decoding: every opcode with operand bytes 34 12 7E, 16-bit widths, one theorem per row of the opcode map -/

theorem test_decode_row_0 : [0x00, 0x01, 0x02, 0x03, 0x04, 0x05, 0x06, 0x07, 0x08, 0x09, 0x0A, 0x0B, 0x0C, 0x0D, 0x0E, 0x0F].map (fun b => decodeBytes false false b 0x34 0x12 0x7E) =
    [.brk 0x34, .oraDpix 0x34, .cop 0x34, .oraSrel 0x34, .tsbDpag 0x34, .oraDpag 0x34, .aslDpag 0x34, .oraDpil 0x34, .php,
     .oraImmm 0x1234, .aslAcc, .phd, .tsbAbs 0x1234, .oraAbs 0x1234, .aslAbs 0x1234, .oraAlng 0x7E1234] := by
  decide
theorem test_decode_row_1 : [0x10, 0x11, 0x12, 0x13, 0x14, 0x15, 0x16, 0x17, 0x18, 0x19, 0x1A, 0x1B, 0x1C, 0x1D, 0x1E, 0x1F].map (fun b => decodeBytes false false b 0x34 0x12 0x7E) =
    [.bpl 0x34, .oraDpiy 0x34, .oraDpgi 0x34, .oraSriy 0x34, .trbDpag 0x34, .oraDpgx 0x34, .aslDpgx 0x34, .oraDily 0x34,
     .clc, .oraAbsy 0x1234, .incAcc, .tcs, .trbAbs 0x1234, .oraAbsx 0x1234, .aslAbsx 0x1234, .oraAlnx 0x7E1234] := by
  decide
theorem test_decode_row_2 : [0x20, 0x21, 0x22, 0x23, 0x24, 0x25, 0x26, 0x27, 0x28, 0x29, 0x2A, 0x2B, 0x2C, 0x2D, 0x2E, 0x2F].map (fun b => decodeBytes false false b 0x34 0x12 0x7E) =
    [.jsrAbs 0x1234, .andDpix 0x34, .jsl 0x7E1234, .andSrel 0x34, .bitDpag 0x34, .andDpag 0x34, .rolDpag 0x34, .andDpil 0x34,
     .plp, .andImmm 0x1234, .rolAcc, .pld, .bitAbs 0x1234, .andAbs 0x1234, .rolAbs 0x1234, .andAlng 0x7E1234] := by
  decide
theorem test_decode_row_3 : [0x30, 0x31, 0x32, 0x33, 0x34, 0x35, 0x36, 0x37, 0x38, 0x39, 0x3A, 0x3B, 0x3C, 0x3D, 0x3E, 0x3F].map (fun b => decodeBytes false false b 0x34 0x12 0x7E) =
    [.bmi 0x34, .andDpiy 0x34, .andDpgi 0x34, .andSriy 0x34, .bitDpgx 0x34, .andDpgx 0x34, .rolDpgx 0x34, .andDily 0x34,
     .sec, .andAbsy 0x1234, .decAcc, .tsc, .bitAbsx 0x1234, .andAbsx 0x1234, .rolAbsx 0x1234, .andAlnx 0x7E1234] := by
  decide
theorem test_decode_row_4 : [0x40, 0x41, 0x42, 0x43, 0x44, 0x45, 0x46, 0x47, 0x48, 0x49, 0x4A, 0x4B, 0x4C, 0x4D, 0x4E, 0x4F].map (fun b => decodeBytes false false b 0x34 0x12 0x7E) =
    [.rti, .eorDpix 0x34, .wdm 0x34, .eorSrel 0x34, .mvp 0x34 0x12, .eorDpag 0x34, .lsrDpag 0x34, .eorDpil 0x34, .pha,
     .eorImmm 0x1234, .lsrAcc, .phk, .jmpAbs 0x1234, .eorAbs 0x1234, .lsrAbs 0x1234, .eorAlng 0x7E1234] := by
  decide
theorem test_decode_row_5 : [0x50, 0x51, 0x52, 0x53, 0x54, 0x55, 0x56, 0x57, 0x58, 0x59, 0x5A, 0x5B, 0x5C, 0x5D, 0x5E, 0x5F].map (fun b => decodeBytes false false b 0x34 0x12 0x7E) =
    [.bvc 0x34, .eorDpiy 0x34, .eorDpgi 0x34, .eorSriy 0x34, .mvn 0x34 0x12, .eorDpgx 0x34, .lsrDpgx 0x34, .eorDily 0x34,
     .cli, .eorAbsy 0x1234, .phy, .tcd, .jmpAlng 0x7E1234, .eorAbsx 0x1234, .lsrAbsx 0x1234, .eorAlnx 0x7E1234] := by
  decide
theorem test_decode_row_6 : [0x60, 0x61, 0x62, 0x63, 0x64, 0x65, 0x66, 0x67, 0x68, 0x69, 0x6A, 0x6B, 0x6C, 0x6D, 0x6E, 0x6F].map (fun b => decodeBytes false false b 0x34 0x12 0x7E) =
    [.rts, .adcDpix 0x34, .per 0x1234, .adcSrel 0x34, .stzDpag 0x34, .adcDpag 0x34, .rorDpag 0x34, .adcDpil 0x34, .pla,
     .adcImmm 0x1234, .rorAcc, .rtl, .jmpAbsi 0x1234, .adcAbs 0x1234, .rorAbs 0x1234, .adcAlng 0x7E1234] := by
  decide
theorem test_decode_row_7 : [0x70, 0x71, 0x72, 0x73, 0x74, 0x75, 0x76, 0x77, 0x78, 0x79, 0x7A, 0x7B, 0x7C, 0x7D, 0x7E, 0x7F].map (fun b => decodeBytes false false b 0x34 0x12 0x7E) =
    [.bvs 0x34, .adcDpiy 0x34, .adcDpgi 0x34, .adcSriy 0x34, .stzDpgx 0x34, .adcDpgx 0x34, .rorDpgx 0x34, .adcDily 0x34,
     .sei, .adcAbsy 0x1234, .ply, .tdc, .jmpAbxi 0x1234, .adcAbsx 0x1234, .rorAbsx 0x1234, .adcAlnx 0x7E1234] := by
  decide
theorem test_decode_row_8 : [0x80, 0x81, 0x82, 0x83, 0x84, 0x85, 0x86, 0x87, 0x88, 0x89, 0x8A, 0x8B, 0x8C, 0x8D, 0x8E, 0x8F].map (fun b => decodeBytes false false b 0x34 0x12 0x7E) =
    [.bra 0x34, .staDpix 0x34, .brl 0x1234, .staSrel 0x34, .styDpag 0x34, .staDpag 0x34, .stxDpag 0x34, .staDpil 0x34, .dey,
     .bitImmm 0x1234, .txa, .phb, .styAbs 0x1234, .staAbs 0x1234, .stxAbs 0x1234, .staAlng 0x7E1234] := by
  decide
theorem test_decode_row_9 : [0x90, 0x91, 0x92, 0x93, 0x94, 0x95, 0x96, 0x97, 0x98, 0x99, 0x9A, 0x9B, 0x9C, 0x9D, 0x9E, 0x9F].map (fun b => decodeBytes false false b 0x34 0x12 0x7E) =
    [.bcc 0x34, .staDpiy 0x34, .staDpgi 0x34, .staSriy 0x34, .styDpgx 0x34, .staDpgx 0x34, .stxDpgy 0x34, .staDily 0x34,
     .tya, .staAbsy 0x1234, .txs, .txy, .stzAbs 0x1234, .staAbsx 0x1234, .stzAbsx 0x1234, .staAlnx 0x7E1234] := by
  decide
theorem test_decode_row_A : [0xA0, 0xA1, 0xA2, 0xA3, 0xA4, 0xA5, 0xA6, 0xA7, 0xA8, 0xA9, 0xAA, 0xAB, 0xAC, 0xAD, 0xAE, 0xAF].map (fun b => decodeBytes false false b 0x34 0x12 0x7E) =
    [.ldyImmx 0x1234, .ldaDpix 0x34, .ldxImmx 0x1234, .ldaSrel 0x34, .ldyDpag 0x34, .ldaDpag 0x34, .ldxDpag 0x34, .ldaDpil
     0x34, .tay, .ldaImmm 0x1234, .tax, .plb, .ldyAbs 0x1234, .ldaAbs 0x1234, .ldxAbs 0x1234, .ldaAlng 0x7E1234] := by
  decide
theorem test_decode_row_B : [0xB0, 0xB1, 0xB2, 0xB3, 0xB4, 0xB5, 0xB6, 0xB7, 0xB8, 0xB9, 0xBA, 0xBB, 0xBC, 0xBD, 0xBE, 0xBF].map (fun b => decodeBytes false false b 0x34 0x12 0x7E) =
    [.bcs 0x34, .ldaDpiy 0x34, .ldaDpgi 0x34, .ldaSriy 0x34, .ldyDpgx 0x34, .ldaDpgx 0x34, .ldxDpgy 0x34, .ldaDily 0x34,
     .clv, .ldaAbsy 0x1234, .tsx, .tyx, .ldyAbsx 0x1234, .ldaAbsx 0x1234, .ldxAbsy 0x1234, .ldaAlnx 0x7E1234] := by
  decide
theorem test_decode_row_C : [0xC0, 0xC1, 0xC2, 0xC3, 0xC4, 0xC5, 0xC6, 0xC7, 0xC8, 0xC9, 0xCA, 0xCB, 0xCC, 0xCD, 0xCE, 0xCF].map (fun b => decodeBytes false false b 0x34 0x12 0x7E) =
    [.cpyImmx 0x1234, .cmpDpix 0x34, .rep 0x34, .cmpSrel 0x34, .cpyDpag 0x34, .cmpDpag 0x34, .decDpag 0x34, .cmpDpil 0x34,
     .iny, .cmpImmm 0x1234, .dex, .wai, .cpyAbs 0x1234, .cmpAbs 0x1234, .decAbs 0x1234, .cmpAlng 0x7E1234] := by
  decide
theorem test_decode_row_D : [0xD0, 0xD1, 0xD2, 0xD3, 0xD4, 0xD5, 0xD6, 0xD7, 0xD8, 0xD9, 0xDA, 0xDB, 0xDC, 0xDD, 0xDE, 0xDF].map (fun b => decodeBytes false false b 0x34 0x12 0x7E) =
    [.bne 0x34, .cmpDpiy 0x34, .cmpDpgi 0x34, .cmpSriy 0x34, .pei 0x34, .cmpDpgx 0x34, .decDpgx 0x34, .cmpDily 0x34, .cld,
     .cmpAbsy 0x1234, .phx, .stp, .jmpAbil 0x1234, .cmpAbsx 0x1234, .decAbsx 0x1234, .cmpAlnx 0x7E1234] := by
  decide
theorem test_decode_row_E : [0xE0, 0xE1, 0xE2, 0xE3, 0xE4, 0xE5, 0xE6, 0xE7, 0xE8, 0xE9, 0xEA, 0xEB, 0xEC, 0xED, 0xEE, 0xEF].map (fun b => decodeBytes false false b 0x34 0x12 0x7E) =
    [.cpxImmx 0x1234, .sbcDpix 0x34, .sep 0x34, .sbcSrel 0x34, .cpxDpag 0x34, .sbcDpag 0x34, .incDpag 0x34, .sbcDpil 0x34,
     .inx, .sbcImmm 0x1234, .nop, .xba, .cpxAbs 0x1234, .sbcAbs 0x1234, .incAbs 0x1234, .sbcAlng 0x7E1234] := by
  decide
theorem test_decode_row_F : [0xF0, 0xF1, 0xF2, 0xF3, 0xF4, 0xF5, 0xF6, 0xF7, 0xF8, 0xF9, 0xFA, 0xFB, 0xFC, 0xFD, 0xFE, 0xFF].map (fun b => decodeBytes false false b 0x34 0x12 0x7E) =
    [.beq 0x34, .sbcDpiy 0x34, .sbcDpgi 0x34, .sbcSriy 0x34, .pea 0x1234, .sbcDpgx 0x34, .incDpgx 0x34, .sbcDily 0x34, .sed,
     .sbcAbsy 0x1234, .plx, .xce, .jsrAbxi 0x1234, .sbcAbsx 0x1234, .incAbsx 0x1234, .sbcAlnx 0x7E1234] := by
  decide

/-- Words written out bit by bit, one of each family. -/
theorem test_decode_bits :
    decode true true [0b10101001, 0b10000000] = .ok (.ldaImmm 0x80, []) ∧
    decode true true [0b11100101, 0b00010000] = .ok (.sbcDpag 0x10, []) ∧
    decode true true [0b01100110, 0b00110000] = .ok (.rorDpag 0x30, []) ∧
    decode true true [0b11110000, 0b00100000] = .ok (.beq 0x20, []) ∧
    decode true true [0b11010100, 0b00010000] = .ok (.pei 0x10, []) ∧
    decode true true [0b10011010] = .ok (.txs, []) ∧
    decode true true [0b01000100, 0b00000010, 0b00000001] = .ok (.mvp 0x02 0x01, []) ∧
    decode true true [0b11100010, 0b00110000] = .ok (.sep 0x30, []) ∧
    decode true true [0b11011100, 0b00000000, 0b00110000] = .ok (.jmpAbil 0x3000, []) := by decide

theorem test_decode_rejects_no_bytes : decode true true [] = .error .noOpcode := by rfl
theorem test_decode_rejects_a_cut_operand : decode true true [0xAD, 0x00] = .error .operandCutShort := by rfl
theorem test_decode_widths : decode true false [0xA9, 0x34, 0x12] = .ok (.ldaImmm 0x34, [0x12]) := by rfl

/-! ### The host's two readings of a table word -/

theorem test_table_word_operand_bytes_follow : decodeTableWord 16 0x10E5 = some (.sbcDpag 0x10) := by decide
theorem test_table_word_bits_above_are_zero : decodeTableWord 8 0xFFAD = some (.ldaAbs 0x0000) := by decide
theorem test_fetch_word_runs_next :
    (match step (State.reset.withFetchWord 16 0x80A9) with | .next t => some (t.a, t.pc) | _ => none) = some (0x0080, 0x0002) := by
  decide

/-! ### One step (spec/95_test_vectors.md, presets of its Conventions) -/

/-- The preset EM. -/
def em : State := { State.reset with p := 0x30, pc := 0x8000, sp := 0x01F0 }

/-- The preset N8. -/
def n8 : State := { em with e := false }

/-- The preset N16. -/
def n16 : State := { em with e := false, p := 0x00 }

/-- `s` with bytes stored from `a` on. -/
def stored : List Byte → Addr → State → State
  | [], _, s => s
  | b :: bs, a, s => stored bs (a + 1) (s.loadByte a b)

/-- What is seen of the state after one step on the bytes at PC. -/
def ran {α : Type} (s : State) (bytes : List Byte) (f : State → α) : Option α :=
  match step (stored bytes s.opcodeAddr s) with
  | .next t => some (f t)
  | _ => none


/-! Load and store (vectors of section 2.2) -/

theorem test_lda_eight_bits_keeps_high_byte :
    ran { em with a := 0x12FF } [0xA9, 0x00] (fun t => (t.a, t.p))
      = some (0x1200, 0x32) := by decide
theorem test_lda_operand_and_data_cross_banks :
    ran { n16 with mem := [(0x00FFFF, 0x34), (0x010000, 0x12)] } [0xAD, 0xFF, 0xFF] (fun t => (t.a, t.p, t.pc))
      = some (0x1234, 0x00, 0x8003) := by decide
theorem test_ldx_direct_page_y :
    ran { em with y := 0x0005, mem := [(0x000015, 0x7F)] } [0xB6, 0x10] (fun t => (t.x, t.p))
      = some (0x007F, 0x30) := by decide
theorem test_ldy_sixteen_bit_zero :
    ran { n16 with y := 0x1234 } [0xA0, 0x00, 0x00] (fun t => (t.y, t.p, t.pc))
      = some (0x0000, 0x02, 0x8003) := by decide
theorem test_sta_sixteen_bits_low_byte_first :
    ran { n16 with a := 0x1234 } [0x8D, 0x00, 0x20] (fun t => (t.readByte 0x002000, t.readByte 0x002001, t.p))
      = some (0x34, 0x12, 0x00) := by decide
theorem test_sta_eight_bits :
    ran { n8 with a := 0x1234 } [0x8D, 0x00, 0x20] (fun t => (t.readByte 0x002000, t.readByte 0x002001))
      = some (0x34, 0x00) := by decide
theorem test_stx_emulation : ran { em with x := 0x0042 } [0x86, 0x10] (fun t => t.readByte 0x000010) = some 0x42 := by decide
theorem test_sty_data_bank :
    ran { n16 with y := 0xBEEF, dbr := 0x01 } [0x8C, 0x00, 0x30] (fun t => (t.readByte 0x013000, t.readByte 0x013001))
      = some (0xEF, 0xBE) := by decide
theorem test_stz_by_the_m_flag :
    ran { n8 with mem := [(0x000020, 0xAA), (0x000021, 0xBB)] } [0x64, 0x20] (fun t => (t.readByte 0x000020, t.readByte 0x000021))
      = some (0x00, 0xBB) := by decide

/-! Arithmetic and logic (2.3, 2.4) -/

theorem test_adc_decimal_fifteen_and_twenty_seven :
    ran { n8 with a := 0x0015, p := 0x28 } [0x69, 0x27] (fun t => (t.a, t.p))
      = some (0x0042, 0x28) := by decide
theorem test_adc_overflow_from_the_corrected_sum :
    ran { n8 with a := 0x0079, p := 0x28 } [0x69, 0x01] (fun t => (t.a, t.p))
      = some (0x0080, 0xE8) := by decide
theorem test_sbc_borrow :
    ran { n8 with a := 0x0050, p := 0x21 } [0xE9, 0x60] (fun t => (t.a, t.p))
      = some (0x00F0, 0xA0) := by decide
theorem test_sbc_decimal_is_the_recipe :
    ran { n8 with a := 0x0042, p := 0x29 } [0xE9, 0x15] (fun t => (t.a, t.p))
      = some (0x0033, 0x29) := by decide
theorem test_and_keeps_high_byte :
    ran { em with a := 0x12F0 } [0x29, 0x0F] (fun t => (t.a, t.p))
      = some (0x1200, 0x32) := by decide
theorem test_ora : ran { em with a := 0x000F } [0x09, 0x80] (fun t => (t.a, t.p)) = some (0x008F, 0xB0) := by decide
theorem test_eor_sixteen_bits :
    ran { n16 with a := 0xFFFF } [0x49, 0xFF, 0xFF] (fun t => (t.a, t.p))
      = some (0x0000, 0x02) := by decide
theorem test_cmp_keeps_v :
    ran { em with p := 0x70, a := 0x0080 } [0xC9, 0x01] (fun t => (t.p, t.a))
      = some (0x71, 0x0080) := by decide
theorem test_cmp_sixteen_bits : ran { n16 with a := 0x7FFF } [0xC9, 0x00, 0x80] (fun t => t.p) = some 0x80 := by decide
theorem test_cpx_equal : ran { n16 with x := 0x1000 } [0xE0, 0x00, 0x10] (fun t => t.p) = some 0x03 := by decide
theorem test_cpy_below : ran { em with y := 0x0005 } [0xC0, 0x10] (fun t => t.p) = some 0xB0 := by decide
theorem test_bit_takes_n_and_v_from_memory :
    ran { em with mem := [(0x000010, 0xC0)] } [0x24, 0x10] (fun t => t.p)
      = some 0xF2 := by decide
theorem test_bit_immediate_writes_z_only : ran em [0x89, 0xC0] (fun t => t.p) = some 0x32 := by decide
theorem test_tsb_sixteen_bits :
    ran { n16 with a := 0x8000, mem := [(0x000020, 0x01)] } [0x04, 0x20] (fun t => (t.readByte 0x000020, t.readByte 0x000021, t.p))
      = some (0x01, 0x80, 0x02) := by decide
theorem test_trb :
    ran { em with a := 0x000F, mem := [(0x000020, 0xFF)] } [0x14, 0x20] (fun t => (t.readByte 0x000020, t.p))
      = some (0xF0, 0x30) := by decide

/-! Shifts, rotates, increments, decrements (2.5) -/

theorem test_asl_memory_sixteen_bits :
    ran { n16 with mem := [(0x002000, 0xC0), (0x002001, 0x40)] } [0x0E, 0x00, 0x20] (fun t => (t.readByte 0x002000, t.readByte 0x002001, t.p))
      = some (0x80, 0x81, 0x80) := by decide
theorem test_lsr_clears_n :
    ran { em with p := 0xB0, a := 0x0001 } [0x4A] (fun t => (t.a, t.p))
      = some (0x0000, 0x33) := by decide
theorem test_rol_takes_the_old_carry :
    ran { em with p := 0x31, a := 0x0080 } [0x2A] (fun t => (t.a, t.p))
      = some (0x0001, 0x31) := by decide
theorem test_ror_memory :
    ran { em with p := 0x31, mem := [(0x000030, 0x01)] } [0x66, 0x30] (fun t => (t.readByte 0x000030, t.p))
      = some (0x80, 0xB1) := by decide
theorem test_ror_sixteen_bits :
    ran { n16 with p := 0x01, a := 0x0001 } [0x6A] (fun t => (t.a, t.p))
      = some (0x8000, 0x81) := by decide
theorem test_inc_accumulator_keeps_high_byte :
    ran { em with a := 0x12FF } [0x1A] (fun t => (t.a, t.p))
      = some (0x1200, 0x32) := by decide
theorem test_inc_memory_one_byte :
    ran { em with mem := [(0x000010, 0xFF), (0x000011, 0x55)] } [0xE6, 0x10] (fun t => (t.readByte 0x000010, t.readByte 0x000011, t.p))
      = some (0x00, 0x55, 0x32) := by decide
theorem test_dec_memory_sixteen_bits :
    ran { n16 with mem := [(0x002001, 0x01)] } [0xCE, 0x00, 0x20] (fun t => (t.readByte 0x002000, t.readByte 0x002001, t.p))
      = some (0xFF, 0x00, 0x00) := by decide
theorem test_inx_eight_bit_wrap : ran { em with x := 0x00FF } [0xE8] (fun t => (t.x, t.p)) = some (0x0000, 0x32) := by decide
theorem test_iny : ran { em with y := 0x007F } [0xC8] (fun t => (t.y, t.p)) = some (0x0080, 0xB0) := by decide
theorem test_dex_sixteen_bit_wrap : ran n16 [0xCA] (fun t => (t.x, t.p)) = some (0xFFFF, 0x80) := by decide
theorem test_dey_sixteen_bits : ran { n16 with y := 0x0100 } [0x88] (fun t => (t.y, t.p)) = some (0x00FF, 0x00) := by decide

/-! Branches (2.6); CYC is the table's count and 1 for `HCOST` -/

theorem test_bcc_taken : ran n16 [0x90, 0x05] (fun t => (t.pc, t.cyc)) = some (0x8007, 0x3) := by decide
theorem test_bcs_not_taken : ran n16 [0xB0, 0x05] (fun t => (t.pc, t.cyc)) = some (0x8002, 0x2) := by decide
theorem test_beq_crosses_a_page :
    ran { em with p := 0x32, pc := 0x80F0 } [0xF0, 0x20] (fun t => (t.pc, t.cyc))
      = some (0x8112, 0x4) := by decide
theorem test_bne_backwards :
    ran { em with pc := 0x8010 } [0xD0, 0xFD] (fun t => (t.pc, t.cyc))
      = some (0x800F, 0x3) := by decide
theorem test_bmi : ran { em with p := 0xB0 } [0x30, 0x7F] (fun t => (t.pc, t.cyc)) = some (0x8081, 0x3) := by decide
theorem test_bpl_back_to_the_page_before : ran em [0x10, 0x80] (fun t => (t.pc, t.cyc)) = some (0x7F82, 0x4) := by decide
theorem test_bvc_not_taken : ran { em with p := 0x70 } [0x50, 0x10] (fun t => (t.pc, t.cyc)) = some (0x8002, 0x2) := by decide
theorem test_bvs_taken : ran { em with p := 0x70 } [0x70, 0x10] (fun t => (t.pc, t.cyc)) = some (0x8012, 0x3) := by decide
theorem test_bra_wraps_in_the_bank :
    ran { em with pc := 0xFFFE } [0x80, 0x02] (fun t => (t.pc, t.pbr, t.cyc))
      = some (0x0002, 0x00, 0x3) := by decide
theorem test_brl_wraps_in_the_bank :
    ran { n8 with pbr := 0x01, pc := 0xFF00 } [0x82, 0x00, 0x02] (fun t => (t.pc, t.pbr, t.cyc))
      = some (0x0103, 0x01, 0x3) := by decide

/-! Stack (2.7) -/

theorem test_pha_wraps_in_page_one :
    ran { em with sp := 0x0100, a := 0x005A } [0x48] (fun t => (t.readByte 0x000100, t.sp))
      = some (0x5A, 0x01FF) := by decide
theorem test_pha_sixteen_bits_wraps_in_bank_zero :
    ran { n16 with sp := 0x0000, a := 0xBEEF } [0x48] (fun t => (t.readByte 0x000000, t.readByte 0x00FFFF, t.sp))
      = some (0xBE, 0xEF, 0xFFFE) := by decide
theorem test_phx :
    ran { n16 with sp := 0x1FFF, x := 0x1234 } [0xDA] (fun t => (t.readByte 0x001FFF, t.readByte 0x001FFE, t.sp))
      = some (0x12, 0x34, 0x1FFD) := by decide
theorem test_phy :
    ran { em with sp := 0x0100, y := 0x0007 } [0x5A] (fun t => (t.readByte 0x000100, t.sp))
      = some (0x07, 0x01FF) := by decide
theorem test_php :
    ran { em with p := 0x34, sp := 0x0100 } [0x08] (fun t => (t.readByte 0x000100, t.sp))
      = some (0x34, 0x01FF) := by decide
theorem test_phb :
    ran { n8 with sp := 0x01FF, dbr := 0x7E } [0x8B] (fun t => (t.readByte 0x0001FF, t.sp))
      = some (0x7E, 0x01FE) := by decide
theorem test_phd_in_emulation_mode :
    ran { em with sp := 0x0100, dp := 0x2100 } [0x0B] (fun t => (t.readByte 0x000100, t.readByte 0x0001FF, t.sp))
      = some (0x21, 0x00, 0x01FE) := by decide
theorem test_phk :
    ran { n8 with sp := 0x01FF, pbr := 0x01 } [0x4B] (fun t => (t.readByte 0x0001FF, t.sp))
      = some (0x01, 0x01FE) := by decide
theorem test_pla_wraps_in_page_one :
    ran { em with sp := 0x01FF, mem := [(0x000100, 0x77), (0x000200, 0x99)] } [0x68] (fun t => (t.a, t.sp, t.p))
      = some (0x0077, 0x0100, 0x30) := by decide
theorem test_plx_sixteen_bits :
    ran { n16 with sp := 0x1FFD, mem := [(0x001FFE, 0x34), (0x001FFF, 0x12)] } [0xFA] (fun t => (t.x, t.sp, t.p))
      = some (0x1234, 0x1FFF, 0x00) := by decide
theorem test_ply :
    ran { em with sp := 0x01FF, y := 0x0005 } [0x7A] (fun t => (t.y, t.sp, t.p))
      = some (0x0000, 0x0100, 0x32) := by decide
theorem test_plp_truncates_the_indexes :
    ran { n16 with sp := 0x01FE, x := 0x1234, y := 0xABCD, mem := [(0x0001FF, 0x10)] } [0x28] (fun t => (t.p, t.x, t.y))
      = some (0x10, 0x0034, 0x00CD) := by decide
theorem test_plp_in_emulation_mode :
    ran { em with sp := 0x01FE } [0x28] (fun t => (t.p, t.sp))
      = some (0x30, 0x01FF) := by decide
theorem test_plb :
    ran { n8 with sp := 0x01FE, mem := [(0x0001FF, 0x80)] } [0xAB] (fun t => (t.dbr, t.p))
      = some (0x80, 0xB0) := by decide
theorem test_pld :
    ran { n8 with sp := 0x01FD, mem := [(0x0001FF, 0x21)] } [0x2B] (fun t => (t.dp, t.sp, t.p))
      = some (0x2100, 0x01FF, 0x30) := by decide
theorem test_pea :
    ran { n8 with sp := 0x01FF } [0xF4, 0x34, 0x12] (fun t => (t.readByte 0x0001FF, t.readByte 0x0001FE, t.sp))
      = some (0x12, 0x34, 0x01FD) := by decide
theorem test_pei :
    ran { n8 with sp := 0x01FF, mem := [(0x000010, 0x78), (0x000011, 0x56)] } [0xD4, 0x10] (fun t => (t.readByte 0x0001FF, t.readByte 0x0001FE, t.sp))
      = some (0x56, 0x78, 0x01FD) := by decide
theorem test_per :
    ran { n8 with sp := 0x01FF } [0x62, 0x10, 0x00] (fun t => (t.readByte 0x0001FF, t.readByte 0x0001FE, t.sp))
      = some (0x80, 0x13, 0x01FD) := by decide

/-! Transfers (2.8) -/

theorem test_tax_copies_all_of_a :
    ran { n8 with p := 0x20, a := 0x1280 } [0xAA] (fun t => (t.x, t.p))
      = some (0x1280, 0x20) := by decide
theorem test_tay_eight_bits :
    ran { n16 with p := 0x10, a := 0x1280 } [0xA8] (fun t => (t.y, t.p))
      = some (0x0080, 0x90) := by decide
theorem test_txa_keeps_high_byte :
    ran { n8 with p := 0x20, a := 0x5555, x := 0x1200 } [0x8A] (fun t => (t.a, t.p))
      = some (0x5500, 0x22) := by decide
theorem test_tya : ran { em with a := 0x55AA } [0x98] (fun t => (t.a, t.p)) = some (0x5500, 0x32) := by decide
theorem test_txy : ran { n16 with x := 0x8000 } [0x9B] (fun t => (t.y, t.p)) = some (0x8000, 0x80) := by decide
theorem test_tyx : ran { em with y := 0x007F, x := 0x0001 } [0xBB] (fun t => (t.x, t.p)) = some (0x007F, 0x30) := by decide
theorem test_tsx_eight_bits : ran { n8 with sp := 0x1200 } [0xBA] (fun t => (t.x, t.p)) = some (0x0000, 0x32) := by decide
theorem test_txs_native :
    ran { n8 with x := 0x00FF, sp := 0x1F00 } [0x9A] (fun t => (t.sp, t.p))
      = some (0x00FF, 0x30) := by decide
theorem test_tcs_forces_page_one :
    ran { em with a := 0x1234, sp := 0x01FF } [0x1B] (fun t => (t.sp, t.p))
      = some (0x0134, 0x30) := by decide
theorem test_tsc : ran { n8 with sp := 0x8000 } [0x3B] (fun t => (t.a, t.p)) = some (0x8000, 0xB0) := by decide
theorem test_tcd : ran { em with a := 0x2100 } [0x5B] (fun t => (t.dp, t.p)) = some (0x2100, 0x30) := by decide
theorem test_tdc : ran { em with dp := 0xFF00 } [0x7B] (fun t => (t.a, t.p)) = some (0xFF00, 0xB0) := by decide
theorem test_xba_flags_of_the_new_low_byte :
    ran { n16 with a := 0x0080 } [0xEB] (fun t => (t.a, t.p))
      = some (0x8000, 0x02) := by decide

/-! Block move (2.9, W7), one step -/

theorem test_mvn_last_byte :
    ran { n16 with x := 0x0010, y := 0x0020, mem := [(0x000010, 0x77)] } [0x54, 0x00, 0x00] (fun t => (t.readByte 0x000020, t.a, t.x, t.y, t.pc, t.cyc))
      = some (0x77, 0xFFFF, 0x0011, 0x0021, 0x8003, 0x2) := by decide
theorem test_mvp_first_byte :
    ran { n16 with a := 0x0002, x := 0x1002, y := 0x2002, mem := [(0x011000, 0xAA), (0x011001, 0xBB), (0x011002, 0xCC)] } [0x44, 0x02, 0x01] (fun t => (t.readByte 0x022002, t.a, t.x, t.y, t.dbr, t.pc))
      = some (0xCC, 0x0001, 0x1001, 0x2001, 0x02, 0x8000) := by decide

/-! Mode control and flags (2.10) -/

theorem test_rep_in_emulation_mode : ran { em with p := 0xFF } [0xC2, 0xFF] (fun t => t.p) = some 0x30 := by decide
theorem test_sep_truncates_the_indexes :
    ran { n16 with x := 0x1234, y := 0xABCD } [0xE2, 0x10] (fun t => (t.p, t.x, t.y))
      = some (0x10, 0x0034, 0x00CD) := by decide
theorem test_xce_to_native :
    ran { em with sp := 0x01FF } [0xFB] (fun t => (t.e, t.p, t.sp))
      = some (false, 0x31, 0x01FF) := by decide
theorem test_xce_to_emulation :
    ran { n16 with p := 0x01, sp := 0x1FF0, x := 0x1234, y := 0x5678, a := 0xAAAA } [0xFB] (fun t => (t.e, t.p, t.sp, t.x, t.y, t.a))
      = some (true, 0x30, 0x01F0, 0x0034, 0x0078, 0xAAAA) := by decide
theorem test_clc : ran { em with p := 0xFF } [0x18] (fun t => t.p) = some 0xFE := by decide
theorem test_sec : ran em [0x38] (fun t => t.p) = some 0x31 := by decide
theorem test_cli : ran { em with p := 0x34 } [0x58] (fun t => t.p) = some 0x30 := by decide
theorem test_sei : ran em [0x78] (fun t => t.p) = some 0x34 := by decide
theorem test_cld : ran { em with p := 0x38 } [0xD8] (fun t => t.p) = some 0x30 := by decide
theorem test_sed : ran em [0xF8] (fun t => t.p) = some 0x38 := by decide
theorem test_clv : ran { em with p := 0x70 } [0xB8] (fun t => t.p) = some 0x30 := by decide
theorem test_nop : ran em [0xEA] (fun t => (t.pc, t.p)) = some (0x8001, 0x30) := by decide

/-! Jumps, calls, returns, interrupts, special (2.11 to 2.13) -/

theorem test_jmp_indirect_pointer_in_the_program_bank :
    ran { n8 with pbr := 0x02, mem := [(0x003000, 0xCD), (0x003001, 0xAB), (0x023000, 0x78), (0x023001, 0x56)] } [0x6C, 0x00, 0x30] (fun t => (t.pc, t.pbr))
      = some (0x5678, 0x02) := by decide
theorem test_jmp_indirect_long :
    ran { n8 with pbr := 0x02, mem := [(0x003000, 0x56), (0x003001, 0x34), (0x003002, 0x12)] } [0xDC, 0x00, 0x30] (fun t => (t.pc, t.pbr))
      = some (0x3456, 0x12) := by decide
theorem test_jsr :
    ran { em with sp := 0x01FF } [0x20, 0x00, 0x90] (fun t => (t.readByte 0x0001FF, t.readByte 0x0001FE, t.sp, t.pc))
      = some (0x80, 0x02, 0x01FD, 0x9000) := by decide
theorem test_jsr_indexed_indirect :
    ran { n8 with sp := 0x01FF, x := 0x0002, mem := [(0x003003, 0x90)] } [0xFC, 0x00, 0x30] (fun t => (t.readByte 0x0001FF, t.readByte 0x0001FE, t.sp, t.pc))
      = some (0x80, 0x02, 0x01FD, 0x9000) := by decide
theorem test_jsl_wraps_in_page_one :
    ran { em with sp := 0x0101 } [0x22, 0x00, 0x80, 0x01] (fun t => (t.readByte 0x000101, t.readByte 0x000100, t.readByte 0x0001FF, t.sp, t.pbr, t.pc))
      = some (0x00, 0x80, 0x03, 0x01FE, 0x01, 0x8000) := by decide
theorem test_rts_wraps :
    ran { em with pbr := 0x03, sp := 0x01FD, mem := [(0x0001FE, 0xFF), (0x0001FF, 0xFF)] } [0x60] (fun t => (t.pc, t.pbr, t.sp))
      = some (0x0000, 0x03, 0x01FF) := by decide
theorem test_rtl :
    ran { n8 with pbr := 0x01, sp := 0x01FC, mem := [(0x0001FD, 0x03), (0x0001FE, 0x80)] } [0x6B] (fun t => (t.pc, t.pbr, t.sp))
      = some (0x8004, 0x00, 0x01FF) := by decide
theorem test_brk_emulation :
    ran { em with p := 0x3B, sp := 0x01FF, mem := [(0x00FFFE, 0x10), (0x00FFFF, 0x90)] } [0x00, 0xEA] (fun t => (t.readByte 0x0001FF, t.readByte 0x0001FE, t.readByte 0x0001FD, t.sp, t.p, t.pc))
      = some (0x80, 0x02, 0x3B, 0x01FC, 0x37, 0x9010) := by decide
theorem test_brk_native :
    ran { n16 with p := 0x0B, pbr := 0x02, sp := 0x01FF, mem := [(0x00FFE6, 0x10), (0x00FFE7, 0x90)] } [0x00, 0xEA] (fun t => (t.readByte 0x0001FF, t.readByte 0x0001FC, t.sp, t.p, t.pbr, t.pc))
      = some (0x02, 0x0B, 0x01FB, 0x07, 0x00, 0x9010) := by decide
theorem test_cop_native :
    ran { n16 with pbr := 0x02, sp := 0x01FF, mem := [(0x00FFE4, 0x20), (0x00FFE5, 0x90)] } [0x02, 0x55] (fun t => (t.readByte 0x0001FF, t.readByte 0x0001FC, t.sp, t.p, t.pbr, t.pc))
      = some (0x02, 0x00, 0x01FB, 0x04, 0x00, 0x9020) := by decide
theorem test_rti_emulation_keeps_the_bank :
    ran { em with pbr := 0x05, sp := 0x01FC, mem := [(0x0001FD, 0x03), (0x0001FE, 0x02), (0x0001FF, 0x80)] } [0x40] (fun t => (t.p, t.pc, t.pbr, t.sp))
      = some (0x33, 0x8002, 0x05, 0x01FF) := by decide
theorem test_rti_native :
    ran { n16 with p := 0x04, x := 0x1234, sp := 0x01FB, mem := [(0x0001FC, 0x10), (0x0001FD, 0x02), (0x0001FE, 0x80), (0x0001FF, 0x02)] } [0x40] (fun t => (t.p, t.x, t.pc, t.pbr, t.sp))
      = some (0x10, 0x0034, 0x8002, 0x02, 0x01FF) := by decide
theorem test_wai_waits : ran em [0xCB] (fun t => (t.pc, t.cyc)) = some (0x8000, 0x1) := by decide
theorem test_wai_falls_through :
    ran { em with intsig := true } [0xCB] (fun t => (t.pc, t.intsig))
      = some (0x8001, true) := by decide
theorem test_stp_waits : ran em [0xDB] (fun t => (t.pc, t.halted)) = some (0x8000, false) := by decide
theorem test_wdm_stop_code : ran em [0x42, 0xFF] (fun t => (t.halted, t.pc)) = some (true, 0x8002) := by decide
theorem test_wdm_other_operand : ran em [0x42, 0x01] (fun t => (t.halted, t.pc)) = some (false, 0x8002) := by decide

/-! Addressing corner cases (2.1) -/

theorem test_lda_direct_page_x_wraps_in_the_page :
    ran { n16 with dp := 0x1000, x := 0x0120, mem := [(0x001010, 0x44), (0x001011, 0x55)] } [0xB5, 0xF0] (fun t => t.a)
      = some 0x5544 := by decide
theorem test_lda_stack_relative_wraps_in_emulation :
    ran { em with mem := [(0x000110, 0x7E)] } [0xA3, 0x20] (fun t => t.a)
      = some 0x007E := by decide
theorem test_lda_long_x_carries_into_the_bank :
    ran { n16 with x := 0x0020, mem := [(0x130010, 0x44), (0x130011, 0x55)] } [0xBF, 0xF0, 0xFF, 0x12] (fun t => t.a)
      = some 0x5544 := by decide
theorem test_lda_indexed_indirect :
    ran { em with x := 0x0004, dbr := 0x7E, mem := [(0x000005, 0x20), (0x7E2000, 0x5A)] } [0xA1, 0x00] (fun t => (t.a, t.p, t.pc, t.cyc))
      = some (0x005A, 0x30, 0x8002, 0x4) := by decide
theorem test_lda_indirect_long_y_carries_into_the_bank :
    ran { n16 with y := 0x0020, mem := [(0x000040, 0xF0), (0x000041, 0xFF), (0x000042, 0x12), (0x130010, 0x44), (0x130011, 0x55)] } [0xB7, 0x40] (fun t => t.a)
      = some 0x5544 := by decide

/-! Reset and the host (2.14; spec/60_exceptions.md R344, R345) -/

theorem test_reset_operation :
    (let t := State.hostReset { em with
        e := false, p := 0xCB, a := 0x1234, x := 0x5678, y := 0x9ABC, sp := 0x1FF0, dp := 0x2100, pbr := 0x05, dbr := 0x06
        pc := 0x4321, cyc := 99, halted := true, mem := [(0x00FFFD, 0x80)] }
     t.e = true ∧ t.p = 0x34 ∧ t.a = 0x1234 ∧ t.x = 0x0078 ∧ t.y = 0x00BC ∧ t.sp = 0x0100 ∧ t.dp = 0x0000 ∧ t.pbr = 0x00 ∧
     t.dbr = 0x00 ∧ t.pc = 0x8000 ∧ t.cyc = 0 ∧ t.halted = false) := by decide

theorem test_halted_step_stops : (match step { em with halted := true } with | .fault .halted => true | _ => false) = true := by
  decide

theorem test_store_to_rom_is_discarded :
    ran { em with a := 0x5A, pc := 0x0200, cfg := { em.cfg with maskBits := 16, ramSize := 0x8000, romSize := 0x8000, rom := [(0x1000, 0xC3)] } }
      [0x8D, 0x00, 0x90] (fun t => (t.readByte 0x009000, t.readByte 0x011234)) = some (0xC3, 0x00) := by decide

theorem test_address_is_masked :
    ran { em with a := 0x5A, dbr := 0x01, pc := 0x0200, cfg := { em.cfg with maskBits := 16, ramSize := 0x8000, romSize := 0x8000 } }
      [0x8D, 0x34, 0x12] (fun t => t.readByte 0x001234) = some 0x5A := by decide

/-! ### Witnesses: for every obligation with hypotheses, states and operands that meet them -/

theorem witness_DecodeInvertsEncode :
    (Instr.ldaImmm 0x00FF).wf true true = true ∧ (Instr.ldxImmx 0xFFFF).wf true false = true ∧
    (Instr.jsl 0xFFFFFF).wf false false = true := by decide

theorem witness_EncodeInvertsDecode :
    decode true true [0xA9, 0xFF, 0x01] = .ok (.ldaImmm 0xFF, [0x01]) ∧ decode false true [0xA9, 0xFF, 0x01] = .ok (.ldaImmm 0x01FF, []) := by
  decide

theorem witness_LengthIsTheModes :
    [Instr.clc, .aslAcc].map (·.operand.mode) = [.impl, .acc] ∧
    [Instr.brk 0, .ldaDpag 0xFF, .bra 0x80, .ldaSriy 0].map (·.operand.mode) = [.immb, .dpag, .rela, .sriy] ∧
    [Instr.pea 0, .ldaAbs 0xFFFF, .brl 0].map (·.operand.mode) = [.immw, .abs, .lrel] ∧
    [Instr.ldaAlng 0xFFFFFF, .staAlnx 0].map (·.operand.mode) = [.alng, .alnx] ∧
    (Instr.ldaImmm 0).operand.mode = .immm ∧ (Instr.cpxImmx 0).operand.mode = .immx := by decide

theorem witness_WidthFlagsSizeOnlyImmediates :
    (0xA9 : Byte) ∈ ([0x09, 0x29, 0x49, 0x69, 0x89, 0xA9, 0xC9, 0xE9] : List Byte) ∧ (0xA9 : Byte) ∉ ([0xA0, 0xA2, 0xC0, 0xE0] : List Byte) ∧
    (0xA2 : Byte) ∉ ([0x09, 0x29, 0x49, 0x69, 0x89, 0xA9, 0xC9, 0xE9] : List Byte) := by decide

/-- The bytes fetched at the end of bank 0, whose operand is at the start of that bank, and at the end of memory, whose third byte is at address 0. -/
theorem witness_StepRunsTheDecodedInstruction :
    State.reset.cfg.wf = true ∧ State.reset.host = [] ∧ State.reset.hostBoundary.halted = false ∧
    decode State.reset.hostBoundary.m8 State.reset.hostBoundary.x8 State.reset.hostBoundary.fetchBytes = .ok (.brk 0x00, [0x00, 0x00]) ∧
    { em with pc := 0xFFFF, mem := [(0x000000, 0xBB), (0x00FFFF, 0xAA), (0x010000, 0xCC)] }.fetchBytes = [0xAA, 0xBB, 0x00, 0x00] ∧
    { em with pbr := 0xFF, pc := 0xFFFE, mem := [(0x000000, 0xCC), (0xFFFFFE, 0xAA), (0xFFFFFF, 0xBB)] }.fetchBytes =
      [0xAA, 0xBB, 0xCC, 0x00] := by decide

/-- A state the host is about to reset. -/
def resetPending : State := { em with halted := true, host := [{ intsig := true, reset := true }] }

theorem witness_StepAlwaysCompletes : em.cfg.wf = true ∧ em.host = [] ∧ em.halted = false := by decide

theorem witness_HaltedEndsTheRunUntilReset :
    em.cfg.wf = true ∧ { em with halted := true }.halted = true ∧ { em with halted := true }.host = [] ∧
    { em with halted := true, host := [{ intsig := true, reset := false }] }.host = { intsig := true, reset := false } :: [] ∧
    resetPending.halted = true ∧ resetPending.host = { intsig := true, reset := true } :: [] ∧
    (let b : State := { resetPending.hostReset with host := [], intsig := true }
     decode b.m8 b.x8 b.fetchBytes = .ok (.brk 0x00, [0x00, 0x00])) := by decide

theorem witness_HostActionAtTheBoundary :
    resetPending.host = { intsig := true, reset := true } :: [] ∧ (HostAction.mk true true).reset = true ∧
    (HostAction.mk false false).reset = false := by decide

theorem witness_RunsStopOnlyWhenHalted : State.reset.cfg.wf = true ∧ State.reset.hostBoundary.halted = false := by decide

/-- What an instruction leaves, seen through `f`. -/
def seen {α : Type} (i : Instr) (s : State) (f : State → α) : Option α :=
  match exec i s with
  | .next t => some (f t)
  | _ => none

/-- The invariant at a state whose memory lists nothing, from its parts. -/
theorem inv_em : em.Inv := by
  refine ⟨?_, ?_, ?_, ⟨?_, ?_⟩, ?_⟩
  · exact fun _ => by decide
  · exact fun _ => by decide
  · exact fun _ => by decide
  · exact List.Pairwise.nil
  · exact fun c hc => absurd hc (by simp [em, State.reset, State.powerOn])
  · exact fun c hc => absurd hc (by simp [em, State.reset, State.powerOn])

theorem witness_StepKeepsTheInvariant : em.Inv ∧ ∃ t, step em = .next t :=
  ⟨inv_em, _, (step_of_running (by decide) (by decide)).trans (exec_eq_next _ _)⟩

/-- A configuration with ROM, whose mask keeps 16 bits. -/
def withRom : State := { em with cfg := { em.cfg with maskBits := 16, ramSize := 0x8000, romSize := 0x8000 } }

/-- One state with ROM that steps, and an address of its ROM. -/
theorem witness_StepKeepsConfigurationAndRom :
    (∃ t, step withRom = .next t) ∧ withRom.cfg.ramSize ≤ withRom.cfg.index 0xFF8000 :=
  ⟨⟨_, (step_of_running (by decide) (by decide)).trans (exec_eq_next _ _)⟩, by decide⟩

theorem witness_CyclesOfAnInstruction :
    [Instr.nop, .pea 0, .ldaImmm 0, .ldxImmx 0, .ldaAbs 0, .ldaAlng 0, .jmpAbsi 0, .jmpAbil 0].map (·.operand.mode) =
      [.impl, .immw, .immm, .immx, .abs, .alng, .absi, .abil] ∧
    ∀ i ∈ [Instr.nop, .pea 0, .ldaImmm 0, .ldxImmx 0, .ldaAbs 0, .ldaAlng 0, .jmpAbsi 0, .jmpAbil 0],
      i.op ∉ [.bcc, .bcs, .beq, .bne, .bmi, .bpl, .bvc, .bvs, .bra] := by decide

/-- Each register changes somewhere. -/
theorem witness_ControlRegisterWriters :
    seen .xce em (·.e) = some false ∧ seen (.jmpAlng 0x123456) em (·.pbr) = some 0x12 ∧ seen (.mvn 0x02 0x01) em (·.dbr) = some 0x02 ∧
    seen .tcd { em with a := 0x2100 } (·.dp) = some 0x2100 ∧ seen .pha em (·.sp) = some 0x01EF ∧
    seen (.wdm 0xFF) em (·.halted) = some true := by decide

/-- Each flag changes somewhere. -/
theorem witness_FlagWriters :
    seen .sec em (·.flag .c) = some true ∧ seen .tax em (·.flag .z) = some true ∧ seen (.ldaImmm 0x80) em (·.flag .n) = some true ∧
    seen .sei em (·.flag .i) = some true ∧ seen .sed em (·.flag .d) = some true ∧
    seen .xce { n16 with p := 0x01 } (·.flag .x) = some true ∧ seen .clv { em with p := 0x70 } (·.flag .v) = some false ∧
    Instr.sec.op ∉ [.plp, .rti, .rep, .sep] := by decide

theorem witness_MemoryWriters :
    (Instr.aslAcc.op ∉ [.sta, .stx, .sty, .stz, .tsb, .trb, .pha, .phx, .phy, .php, .phb, .phd, .phk, .pea, .pei, .per, .mvn,
      .mvp, .jsr, .jsl, .brk, .cop]) ∧
    ¬ (Instr.aslAcc.op ∈ [.asl, .lsr, .rol, .ror, .inc, .dec] ∧ Instr.aslAcc.operand.mode ≠ .acc) ∧ ∃ t, exec .aslAcc em = .next t :=
  ⟨by decide, by decide, _, exec_eq_next _ _⟩

theorem witness_AccumulatorHighByteKept :
    em.m8 = true ∧ (Instr.ldaImmm 0).op ∉ [.tdc, .tsc, .xba, .mvn, .mvp] ∧ ∃ t, exec (.ldaImmm 0) em = .next t :=
  ⟨by decide, by decide, _, exec_eq_next _ _⟩

theorem witness_ByteRoundTrip :
    withRom.cfg.index 0x7FFF < withRom.cfg.ramSize ∧ withRom.cfg.index 0xFF7FFF = withRom.cfg.index 0x007FFF ∧
    withRom.cfg.ramSize ≤ withRom.cfg.index 0x8000 ∧ withRom.cfg.index 0x7FFF ≠ withRom.cfg.index 0x8000 := by decide

theorem witness_EffectiveAddressesWithoutPointer : Operand.immw 0xFFFF ∈ [Operand.immb 0xFF, .immw 0xFFFF, .immm 0, .immx 0] := by
  decide

/-- Each kind of operand: the immediates, and memory whose two bytes are the last and the first. -/
theorem witness_LoadsCopyTheOperand :
    (Instr.ldaSriy 0xFF).op = .lda ∧ (Instr.ldxImmx 0x00FF).op = .ldx ∧ (Instr.ldyAbsx 0xFFFF).op = .ldy ∧
    (Instr.ldaImmm 0xFFFF).operand = .immm 0xFFFF ∧ (Instr.cpyImmx 0x00FF).operand = .immx 0x00FF ∧ (Instr.pea 0xFFFF).operand = .immw 0xFFFF ∧
    (Instr.rep 0xFF).operand = .immb 0xFF ∧
    (Instr.ldaAlng 0xFFFFFF).operand.mode ∉ [.impl, .acc, .immb, .immw, .immm, .immx] ∧
    (let s := { n16 with mem := [(0x000000, 0x12), (0xFFFFFF, 0x34)] }
     s.valueOf false (.ldaAlng 0xFFFFFF) = 0x1234 ∧ s.valueOf true (.ldaAlng 0xFFFFFF) = 0x0034 ∧
     s.valueOf true (.ldaImmm 0xFFFF) = 0x00FF) := by decide

theorem witness_StoresWriteTheRegister :
    (Instr.staAlnx 0xFFFFFF).op = .sta ∧ (Instr.stxDpgy 0).op = .stx ∧ (Instr.styAbs 0xFFFF).op = .sty ∧ (Instr.stzAbsx 0).op = .stz := by
  decide

/-- A sixteen-bit store at the last address wraps to the first, whose byte is another one. -/
theorem witness_Stored :
    seen (.staAlng 0xFFFFFF) { n16 with a := 0x1234 } (fun t => (t.readByte 0xFFFFFF, t.readByte 0x000000)) = some (0x34, 0x12) ∧
    n16.cfg.index (0xFFFFFF + 1) ≠ n16.cfg.index 0xFFFFFF ∧ n16.cfg.index (0xFFFFFF + 1) < n16.cfg.ramSize ∧
    OutsideBytes n16 0xFFFFFF 2 0x000001 := by
  refine ⟨by decide, by decide, by decide, ?_⟩
  intro k hk
  rcases k with _ | _ | k
  · decide
  · decide
  · omega

theorem witness_AdcSbcFollowTheRecipe : (Instr.adcImmm 0x00FF).op = .adc ∧ (Instr.sbcDpil 0).op = .sbc := by decide

theorem witness_BinaryAdcSbcAreArithmetic :
    em.flag .d = false ∧ (∃ t, exec (.adcImmm 0x7F) em = .next t) ∧ ∃ t, exec (.sbcImmm 0x80) em = .next t :=
  ⟨by decide, ⟨_, exec_eq_next _ _⟩, _, exec_eq_next _ _⟩

/-- 79 + 76 with carry 0: both digit sums are 15. -/
theorem witness_DecimalAdcOfSmallDigitSums :
    (let s := { n8 with a := 0x79, p := 0x28 }
     (Instr.adcImmm 0x76).op = .adc ∧ s.m8 = true ∧ s.flag .d = true ∧ (lo s.a).toNat = 16 * 7 + 9 ∧
     (s.valueOf true (.adcImmm 0x76)).toNat = 16 * 7 + 6 ∧ 9 + 6 + (s.flag .c).toNat = 15 ∧
     7 + 7 + (if 9 < 9 + 6 + (s.flag .c).toNat then 1 else 0) = 15) ∧
    ∃ t, exec (.adcImmm 0x76) { n8 with a := 0x79, p := 0x28 } = .next t :=
  ⟨by decide, _, exec_eq_next _ _⟩

theorem witness_LogicOnTheAccumulator :
    (Instr.andImmm 0).op = .and ∧ (Instr.oraAlnx 0xFFFFFF).op = .ora ∧ (Instr.eorDpiy 0xFF).op = .eor := by decide

theorem witness_ComparesSetFlags : (Instr.cmpImmm 0).op = .cmp ∧ (Instr.cpxImmx 0).op = .cpx ∧ (Instr.cpyAbs 0xFFFF).op = .cpy := by
  decide

theorem witness_BitTestsTheOperand :
    (Instr.bitAbsx 0xFFFF).op = .bit ∧ (Instr.bitAbsx 0xFFFF).operand.mode ≠ .immm ∧ (Instr.bitImmm 0).op = .bit := by decide

theorem witness_TestAndModifyBits : (Instr.tsbDpag 0xFF).op = .tsb ∧ (Instr.trbAbs 0xFFFF).op = .trb := by decide

theorem witness_RmwOnTheAccumulator :
    [Instr.aslAcc, .lsrAcc, .rolAcc, .rorAcc, .incAcc, .decAcc].map (·.op) = [.asl, .lsr, .rol, .ror, .inc, .dec] ∧
    ∀ i ∈ [Instr.aslAcc, .lsrAcc, .rolAcc, .rorAcc, .incAcc, .decAcc], i.operand.mode = .acc := by decide

theorem witness_RmwOnMemory :
    [Instr.aslDpag 0, .lsrDpgx 0xFF, .rolAbs 0, .rorAbsx 0xFFFF, .incDpag 0, .decAbs 0].map (·.op) =
      [.asl, .lsr, .rol, .ror, .inc, .dec] ∧
    ∀ i ∈ [Instr.aslDpag 0, .lsrDpgx 0xFF, .rolAbs 0, .rorAbsx 0xFFFF, .incDpag 0, .decAbs 0], i.operand.mode ≠ .acc := by decide

theorem witness_IndexIncrementDecrement : [Instr.inx, .iny, .dex, .dey].map (·.op) = [.inx, .iny, .dex, .dey] := by decide

/-- BEQ, taken at its boundary displacement and not taken; BRA is always taken. -/
theorem witness_BranchesGoToTheTarget :
    [Instr.bcc 0x80, .bcs 0x7F, .beq 0x80, .bne 0, .bmi 0, .bpl 0, .bvc 0, .bvs 0, .bra 0xFE].map (·.op) =
      [.bcc, .bcs, .beq, .bne, .bmi, .bpl, .bvc, .bvs, .bra] ∧
    (Instr.beq 0x80).operand = .rela 0x80 ∧ branchTaken .beq { em with p := 0x32 } = true ∧ branchTaken .beq em = false := by decide

/-- The stack at the bottom of page 1, where a push of emulation mode wraps, and in half a bank of RAM under a 16-bit mask (program P3). -/
theorem witness_StackSymmetry :
    { em with sp := 0x0100 }.slotsInRam 2 ∧ { em with sp := 0x0100 }.slotsInRam 1 ∧ withRom.slotsInRam 2 ∧ withRom.slotsInRam 1 := by decide

theorem witness_PushesWriteTheStack :
    [Instr.pha, .phx, .phy, .php, .phb, .phd, .phk, .pea 0xFFFF, .pei 0xFF, .per 0x8000].map (·.op) =
      [.pha, .phx, .phy, .php, .phb, .phd, .phk, .pea, .pei, .per] := by decide

/-- The slots of a 16-bit push at the bottom of page 1 are two, both in RAM. -/
theorem witness_Pushed :
    { em with sp := 0x0100 }.slot 0 = 0x0100 ∧ { em with sp := 0x0100 }.slot 1 = 0x01FF ∧
    seen .phd { em with sp := 0x0100, dp := 0x2100 } (fun t => (t.readByte 0x0100, t.readByte 0x01FF, t.sp)) = some (0x21, 0x00, 0x01FE) := by
  decide

theorem witness_PullsReadTheStack : [Instr.pla, .plx, .ply, .plb, .pld].map (·.op) = [.pla, .plx, .ply, .plb, .pld] := by decide

theorem witness_TransfersAtTheDestinationsWidth :
    [Instr.tax, .tay, .txa, .tya, .txy, .tyx, .tsx].map (·.op) = [.tax, .tay, .txa, .tya, .txy, .tyx, .tsx] := by decide

theorem witness_TransfersToTheStackPointer : Instr.txs.op = .txs ∧ Instr.tcs.op = .tcs := by decide

theorem witness_SixteenBitTransfersAndXba : [Instr.tsc, .tcd, .tdc, .xba].map (·.op) = [.tsc, .tcd, .tdc, .xba] := by decide

/-- MVN in bank 1 from 01:0000 to 02:0000 with A = 1, at the end of a program bank. -/
def moving : State :=
  { n16 with pc := 0xFFFD, a := 0x0001, mem := [(0x00FFFD, 0x54), (0x00FFFE, 0x02), (0x00FFFF, 0x01), (0x010000, 0xAA)] }

theorem witness_BlockMoveRunsToTheEnd :
    moving.cfg.wf = true ∧ moving.host = [] ∧ moving.halted = false ∧ moving.readByte moving.opcodeAddr = 0x54 ∧
    moving.readByte moving.operandAddr = 0x02 ∧ moving.readByte (moving.operandAddr + 1) = 0x01 ∧
    ∀ k < moving.a.toNat + 1,
      moving.cfg.index (addrOf 0x02 (clip moving.x8 (moving.y + BitVec.ofNat 16 k))) ≠ moving.cfg.index moving.opcodeAddr ∧
      moving.cfg.index (addrOf 0x02 (clip moving.x8 (moving.y + BitVec.ofNat 16 k))) ≠ moving.cfg.index moving.operandAddr ∧
      moving.cfg.index (addrOf 0x02 (clip moving.x8 (moving.y + BitVec.ofNat 16 k))) ≠ moving.cfg.index (moving.operandAddr + 1) := by
  refine ⟨by decide, by decide, by decide, by decide, by decide, by decide, ?_⟩
  intro k hk
  have : k < 2 := hk
  interval_cases k <;> decide

/-- MVN within bank 1 from 01:0001 to 01:0000: the second byte goes to where the first one came from. -/
def movingDown : State :=
  { moving with x := 0x0001, y := 0x0000, mem :=
      [(0x00FFFD, 0x54), (0x00FFFE, 0x01), (0x00FFFF, 0x01), (0x010001, 0xAA), (0x010002, 0xBB)] }

/-- A move of overlapping blocks meets the hypotheses, and each of its bytes those of the last clause. -/
theorem witness_BlockMoveOverlapping :
    let from_ := fun k => movingDown.cfg.index (addrOf 0x01 (clip movingDown.x8 (movingDown.x + BitVec.ofNat 16 k)))
    let to_ := fun k => movingDown.cfg.index (addrOf 0x01 (clip movingDown.x8 (movingDown.y + BitVec.ofNat 16 k)))
    movingDown.cfg.wf = true ∧ movingDown.a = 0x0001 ∧ to_ 1 = from_ 0 ∧ to_ 0 ≠ from_ 1 ∧ to_ 1 ≠ to_ 0 ∧
    (∀ k < 2, to_ k < movingDown.cfg.ramSize ∧ to_ k ≠ movingDown.cfg.index movingDown.opcodeAddr ∧
      to_ k ≠ movingDown.cfg.index movingDown.operandAddr ∧ to_ k ≠ movingDown.cfg.index (movingDown.operandAddr + 1)) ∧
    movingDown.readByte movingDown.opcodeAddr = 0x54 ∧ movingDown.readByte movingDown.operandAddr = 0x01 ∧
    movingDown.readByte (movingDown.operandAddr + 1) = 0x01 := by decide

theorem witness_XceExchangesCarryAndE :
    seen .xce { n16 with p := 0x01 } (·.e) = some true ∧ seen .xce em (·.e) = some false := by decide

theorem witness_SingleFlagInstructions :
    [Instr.clc, .sec, .cli, .sei, .cld, .sed, .clv, .nop].map (·.op) = [.clc, .sec, .cli, .sei, .cld, .sed, .clv, .nop] := by decide

theorem witness_JumpsGoToTheTarget : (Instr.jmpAbs 0xFFFF).op = .jmp ∧ (Instr.jmpAbil 0xFFFF).op = .jmp := by decide

theorem witness_CallsPushTheReturnAddress : (Instr.jsrAbs 0xFFFF).op = .jsr ∧ (Instr.jsl 0xFFFFFF).op = .jsl := by decide

theorem witness_ReturnsPullTheReturnAddress : Instr.rts.op = .rts ∧ Instr.rtl.op = .rtl := by decide

theorem witness_CallThenReturn :
    (Instr.jsrAbxi 0xFFFF).op = .jsr ∧ (Instr.jsl 0xFFFFFF).op = .jsl ∧ withRom.slotsInRam 2 ∧ withRom.slotsInRam 3 ∧
    (∃ t u, exec (.jsrAbxi 0xFFFF) withRom = .next t ∧ exec .rts t = .next u) ∧
    ∃ t u, exec (.jsl 0xFFFFFF) withRom = .next t ∧ exec .rtl t = .next u :=
  ⟨by decide, by decide, by decide, by decide, ⟨_, _, exec_eq_next _ _, exec_eq_next _ _⟩, _, _, exec_eq_next _ _, exec_eq_next _ _⟩

theorem witness_SoftwareInterruptsTakeTheirException : (Instr.brk 0xFF).op = .brk ∧ (Instr.cop 0).op = .cop := by decide

theorem inv_n8 : n8.Inv :=
  ⟨fun h => absurd h (by decide), fun h => absurd h (by decide), fun _ => by decide, inv_em.memoryInForm⟩

/-- In emulation mode, and in native mode. -/
theorem witness_InterruptThenReturn :
    (Instr.brk 0xFF).op = .brk ∧ (Instr.cop 0).op = .cop ∧
    (em.Inv ∧ em.slotsInRam (if em.e then 3 else 4) ∧ em.e = true ∧ ∃ t u, exec (.brk 0xFF) em = .next t ∧ exec .rti t = .next u) ∧
    (n8.Inv ∧ n8.slotsInRam (if n8.e then 3 else 4) ∧ n8.e = false ∧ ∃ t u, exec (.cop 0) n8 = .next t ∧ exec .rti t = .next u) :=
  ⟨by decide, by decide, ⟨inv_em, by decide, by decide, _, _, exec_eq_next _ _, exec_eq_next _ _⟩,
    inv_n8, by decide, by decide, _, _, exec_eq_next _ _, exec_eq_next _ _⟩

theorem witness_WaitsPollTheSignal : Instr.wai.op = .wai ∧ Instr.stp.op = .stp := by decide

theorem witness_WdmHaltsOnAStopCode : (0xFF : Byte) ∈ em.cfg.wdmStop ∧ (0x00 : Byte) ∉ em.cfg.wdmStop := by decide

end Sys2Proof.Tests
end

section
/-! Footprints: which parts of the state, and which flags, the handler of each mnemonic may write. The non-interference rules of
spec/10_state.md (R21, R23 to R29, R35, R39) are read off these two tables. -/

namespace Sys2Proof.Machine

/-- The fields of `State`, as names. -/
inductive Part where
  | a | x | y | sp | dp | pc | pbr | dbr | p | e | cyc | halted | mem | intsig | host | cfg
  deriving DecidableEq

/-- A part is in `t` as it was in `s`. -/
def Part.Same (s t : State) : Part → Prop
  | .a => t.a = s.a
  | .x => t.x = s.x
  | .y => t.y = s.y
  | .sp => t.sp = s.sp
  | .dp => t.dp = s.dp
  | .pc => t.pc = s.pc
  | .pbr => t.pbr = s.pbr
  | .dbr => t.dbr = s.dbr
  | .p => t.p = s.p
  | .e => t.e = s.e
  | .cyc => t.cyc = s.cyc
  | .halted => t.halted = s.halted
  | .mem => t.mem = s.mem
  | .intsig => t.intsig = s.intsig
  | .host => t.host = s.host
  | .cfg => t.cfg = s.cfg

theorem Part.Same.trans {r : Part} {s t u : State} (h : r.Same s t) (k : r.Same t u) : r.Same s u := by
  cases r <;> exact Eq.trans k h

/-- Every part but those listed is as before: `KeepsFlags`, for the fields of the state. -/
def KeepsParts (written : List Part) (s t : State) : Prop := ∀ r, r ∉ written → r.Same s t

theorem KeepsParts.trans {ps qs : List Part} {s t u : State} (h : KeepsParts ps s t) (k : KeepsParts qs t u) :
    KeepsParts (ps ++ qs) s u := by
  intro r hr
  rw [List.mem_append, not_or] at hr
  exact (h r hr.1).trans (k r hr.2)

theorem KeepsParts.mono {ps qs : List Part} {s t : State} (h : KeepsParts ps s t) (hs : ps ⊆ qs) : KeepsParts qs s t :=
  fun r hr => h r fun hp => hr (hs hp)

/-- `t` with the parts listed put back as they were in `s`. -/
def State.restore (written : List Part) (s t : State) : State where
  a := if .a ∈ written then s.a else t.a
  x := if .x ∈ written then s.x else t.x
  y := if .y ∈ written then s.y else t.y
  sp := if .sp ∈ written then s.sp else t.sp
  dp := if .dp ∈ written then s.dp else t.dp
  pc := if .pc ∈ written then s.pc else t.pc
  pbr := if .pbr ∈ written then s.pbr else t.pbr
  dbr := if .dbr ∈ written then s.dbr else t.dbr
  p := if .p ∈ written then s.p else t.p
  e := if .e ∈ written then s.e else t.e
  cyc := if .cyc ∈ written then s.cyc else t.cyc
  halted := if .halted ∈ written then s.halted else t.halted
  mem := if .mem ∈ written then s.mem else t.mem
  intsig := if .intsig ∈ written then s.intsig else t.intsig
  host := if .host ∈ written then s.host else t.host
  cfg := if .cfg ∈ written then s.cfg else t.cfg

/-- The form a frame is computed in: with what was written put back, nothing has changed. -/
theorem KeepsParts.of_restore {ps : List Part} {s t : State} (h : s.restore ps t = s) : KeepsParts ps s t := by
  intro r hr
  have k : r.Same (s.restore ps t) t := by cases r <;> exact (if_neg hr).symm
  rwa [h] at k

/-! ### What the shared operations write -/

namespace State

variable (s : State)

theorem setFlag_keepsParts (f : Flag) (b : Bool) : KeepsParts [.p] s (s.setFlag f b) := .of_restore rfl

theorem setNZ_keepsParts (n : Bool) (v : Word) : KeepsParts [.p] s (s.setNZ n v) := .of_restore rfl

theorem compare_keepsParts (n : Bool) (v w : Word) : KeepsParts [.p] s (s.compare n v w) :=
  ((s.setFlag_keepsParts .c _).trans (setNZ_keepsParts _ n _)).mono (by decide)

theorem pushSized_keepsParts (n : Bool) (v : Word) : KeepsParts [.mem, .sp] s (s.pushSized n v) := by
  cases n <;> exact .of_restore rfl

theorem pullSized_keepsParts (n : Bool) : KeepsParts [.sp] s (s.pullSized n).2 := by
  cases n <;> exact .of_restore rfl

theorem takeInterrupt_keepsParts (k : SoftInterrupt) : KeepsParts [.mem, .sp, .p, .pc, .pbr] s (s.takeInterrupt k) :=
  .of_restore (by simp [restore])

end State

theorem rmw_keepsParts (f : Bool → Bool → Word → RmwResult) (o : Operand) (ea : Addr) (s : State) :
    KeepsParts [.a, .mem, .p] s (rmw f o ea s) := by
  unfold rmw
  split <;> exact .of_restore rfl

theorem bit_keepsParts (o : Operand) (ea : Addr) (s : State) : KeepsParts [.p] s (bit o ea s) := by
  unfold bit
  split
  · exact s.setFlag_keepsParts .z _
  · exact (((s.setFlag_keepsParts .z _).trans (State.setFlag_keepsParts _ .n _)).trans
      (State.setFlag_keepsParts _ .v _)).mono (by decide)

/-! ### What each handler writes -/

/-- The parts of the state that the handler of a mnemonic may write. -/
def footprint : Op → List Part
  | .lda | .adc | .sbc | .and | .ora | .eor | .txa | .tya | .tsc | .tdc | .xba => [.a, .p]
  | .ldx | .inx | .dex | .tax | .tyx | .tsx => [.x, .p]
  | .ldy | .iny | .dey | .tay | .txy => [.y, .p]
  | .cmp | .cpx | .cpy | .bit | .clc | .sec | .cli | .sei | .cld | .sed | .clv => [.p]
  | .sta | .stx | .sty | .stz => [.mem]
  | .tsb | .trb => [.p, .mem]
  | .asl | .lsr | .rol | .ror | .inc | .dec => [.a, .mem, .p]
  | .bcc | .bcs | .beq | .bne | .bmi | .bpl | .bvc | .bvs | .bra => [.pc, .cyc]
  | .brl | .wai | .stp => [.pc]
  | .pha | .phx | .phy | .php | .phb | .phd | .phk | .pea | .pei | .per => [.mem, .sp]
  | .pla => [.sp, .a, .p]
  | .plx => [.sp, .x, .p]
  | .ply => [.sp, .y, .p]
  | .plp => [.sp, .p, .x, .y]
  | .plb => [.sp, .dbr, .p]
  | .pld => [.sp, .dp, .p]
  | .txs | .tcs => [.sp]
  | .tcd => [.dp, .p]
  | .mvn | .mvp => [.a, .x, .y, .dbr, .mem, .pc]
  | .rep | .sep => [.p, .x, .y]
  | .xce => [.p, .e, .x, .y, .sp]
  | .nop => []
  | .jmp => [.pc, .pbr]
  | .jsr => [.mem, .sp, .pc]
  | .jsl => [.mem, .sp, .pc, .pbr]
  | .rts => [.sp, .pc]
  | .rtl => [.sp, .pc, .pbr]
  | .brk | .cop => [.mem, .sp, .p, .pc, .pbr]
  | .rti => [.sp, .p, .x, .y, .pc, .pbr]
  | .wdm => [.halted]

/-- A handler writes nothing outside its footprint: where nothing branches, the frame is computed. -/
theorem handlerOf_keepsParts (op : Op) (o : Operand) (ea : Addr) (s : State) :
    KeepsParts (footprint op) s (handlerOf op o ea s) := by
  cases op with
  | pha | phx | phy => exact s.pushSized_keepsParts _ _
  | pla | plx | ply => exact (s.pullSized_keepsParts _).trans (.of_restore rfl)
  | asl | lsr | rol | ror | inc | dec =>
    simp only [handlerOf]
    exact rmw_keepsParts _ o ea s
  | cmp | cpx | cpy => exact s.compare_keepsParts _ _ _
  | bit => exact bit_keepsParts o ea s
  | brk | cop => exact s.takeInterrupt_keepsParts _
  | _ => exact .of_restore rfl

end Sys2Proof.Machine
end

section
/-! The flags that each handler may write (spec/10_state.md R35). -/

namespace Sys2Proof.Machine

theorem KeepsFlags.trans {fs gs : List Flag} {s t u : State} (h : KeepsFlags fs s t) (k : KeepsFlags gs t u) :
    KeepsFlags (fs ++ gs) s u := by
  intro f hf
  rw [List.mem_append, not_or] at hf
  exact (k f hf.2).trans (h f hf.1)

theorem KeepsFlags.mono {fs gs : List Flag} {s t : State} (h : KeepsFlags fs s t) (hs : fs ⊆ gs) : KeepsFlags gs s t :=
  fun f hf => h f fun hg => hf (hs hg)

/-- The flags are bits of P, so they are kept where P is. -/
theorem keepsFlags_of_p {s t : State} (h : t.p = s.p) : KeepsFlags [] s t := fun f _ => congrArg (·.getLsbD f.bit) h

namespace State

variable (s : State)

theorem setFlag_keepsFlags (f : Flag) (b : Bool) : KeepsFlags [f] s (s.setFlag f b) :=
  fun _ hg => flag_setFlag_other s b (List.ne_of_not_mem_cons hg)

theorem setAddFlags_keepsFlags (n : Bool) (r : AddResult) : KeepsFlags [.c, .v, .n, .z] s (s.setAddFlags n r) :=
  ((s.setFlag_keepsFlags .c _).trans (setFlag_keepsFlags _ .v _)).trans (setNZ_keepsFlags _ n r.value)

theorem compare_keepsFlags (n : Bool) (v w : Word) : KeepsFlags [.c, .n, .z] s (s.compare n v w) :=
  (s.setFlag_keepsFlags .c _).trans (setNZ_keepsFlags _ n _)

theorem takeInterrupt_keepsFlags (k : SoftInterrupt) : KeepsFlags [.i, .d] s (s.takeInterrupt k) :=
  (keepsFlags_of_p s.pushFrame_p).trans
    ((setFlag_keepsFlags _ .i true).trans (setFlag_keepsFlags _ .d false))

end State

/-- Every read-modify-write ends in `setRmwFlags`, from a state of the same P. -/
theorem rmw_eq_setRmwFlags (f : Bool → Bool → Word → RmwResult) (o : Operand) (ea : Addr) (s : State) :
    ∃ (u : State) (v : Word), u.p = s.p ∧ rmw f o ea s = u.setRmwFlags s.m8 (f s.m8 (s.flag .c) v) := by
  by_cases h : o.mode = .acc
  · exact ⟨_, _, State.writeA_p _ _ _, rmw_acc f o ea s h⟩
  · exact ⟨_, _, State.writeSized_p _ _ _ _, rmw_mem f o ea s h⟩

theorem rmw_keepsFlags (f : Bool → Bool → Word → RmwResult) (o : Operand) (ea : Addr) (s : State) :
    KeepsFlags [.c, .n, .z] s (rmw f o ea s) := by
  obtain ⟨u, v, hp, h⟩ := rmw_eq_setRmwFlags f o ea s
  rw [h]
  refine (keepsFlags_of_p hp).trans fun g hg => ?_
  rw [State.flag_setRmwFlags]
  cases g <;> simp at hg ⊢

/-- A read-modify-write that answers no carry keeps C too (INC and DEC). -/
theorem rmw_keepsFlags_of_carry_none {f : Bool → Bool → Word → RmwResult} (hf : ∀ n c v, (f n c v).carry = none)
    (o : Operand) (ea : Addr) (s : State) : KeepsFlags [.n, .z] s (rmw f o ea s) := by
  obtain ⟨u, v, hp, h⟩ := rmw_eq_setRmwFlags f o ea s
  rw [h]
  refine (keepsFlags_of_p hp).trans fun g hg => ?_
  rw [State.flag_setRmwFlags, hf]
  cases g <;> simp at hg ⊢

theorem bitMem_keepsFlags (o : Operand) (ea : Addr) (s : State) : KeepsFlags [.z, .n, .v] s (bitMem o ea s) :=
  ((s.setFlag_keepsFlags .z _).trans (State.setFlag_keepsFlags _ .n _)).trans (State.setFlag_keepsFlags _ .v _)

/-- BIT in the immediate form keeps N and V too (spec/42_alu.md R179). -/
theorem bit_imm_keepsFlags {o : Operand} (ho : o.mode = .immm) (ea : Addr) (s : State) : KeepsFlags [.z] s (bit o ea s) := by
  rw [bit, if_pos ho]
  exact s.setFlag_keepsFlags .z _

theorem bit_keepsFlags (o : Operand) (ea : Addr) (s : State) : KeepsFlags [.z, .n, .v] s (bit o ea s) := by
  by_cases ho : o.mode = .immm
  · exact (bit_imm_keepsFlags ho ea s).mono (by decide)
  · rw [bit, if_neg ho]
    exact bitMem_keepsFlags o ea s

/-- Each flag after XCE (spec/48_mode_control_flags.md R287). -/
theorem flag_xce (o : Operand) (ea : Addr) (s : State) (g : Flag) :
    (xce o ea s).flag g =
      if g = .c then s.e else if s.flag .c = true ∧ (g = .m ∨ g = .x) then true else s.flag g := by
  have hflag : (xce o ea s).flag g =
      (if s.flag .c then (s.setFlag .c s.e).p ||| 0x30#8 else (s.setFlag .c s.e).p).getLsbD g.bit := rfl
  have hset : (s.setFlag .c s.e).p.getLsbD g.bit = if g = .c then s.e else s.flag g := s.flag_setFlag .c g s.e
  rw [hflag]
  cases s.flag .c
  · simpa using hset
  · rw [if_pos rfl, BitVec.getLsbD_or, hset]
    cases g <;> simp [Flag.bit]

/-- The flags that the handler of a mnemonic may write. -/
def flagsWritten : Op → List Flag
  | .lda | .ldx | .ldy | .and | .ora | .eor | .inc | .dec | .inx | .iny | .dex | .dey | .pla | .plx | .ply | .plb | .pld
  | .tax | .tay | .txa | .tya | .txy | .tyx | .tsx | .tsc | .tcd | .tdc | .xba => [.n, .z]
  | .adc | .sbc => [.c, .v, .n, .z]
  | .cmp | .cpx | .cpy | .asl | .lsr | .rol | .ror => [.c, .n, .z]
  | .bit => [.z, .n, .v]
  | .tsb | .trb => [.z]
  | .clc | .sec => [.c]
  | .cli | .sei => [.i]
  | .cld | .sed => [.d]
  | .clv => [.v]
  | .brk | .cop => [.i, .d]
  | .xce => [.c, .m, .x]
  | .plp | .rti | .rep | .sep => [.c, .z, .i, .d, .x, .m, .v, .n]
  | .sta | .stx | .sty | .stz | .bcc | .bcs | .beq | .bne | .bmi | .bpl | .bvc | .bvs | .bra | .brl
  | .pha | .phx | .phy | .php | .phb | .phd | .phk | .pea | .pei | .per | .txs | .tcs | .mvn | .mvp | .nop
  | .jmp | .jsr | .jsl | .rts | .rtl | .wai | .stp | .wdm => []

/-- A handler writes no flag but those of its mnemonic. -/
theorem handlerOf_keepsFlags (op : Op) (o : Operand) (ea : Addr) (s : State) :
    KeepsFlags (flagsWritten op) s (handlerOf op o ea s) := by
  cases op with
  | lda | ldx | ldy | and | ora | eor | inx | iny | dex | dey | plb | pld
  | tax | tay | txa | tya | txy | tyx | tsx | tsc | tcd | tdc | xba =>
    exact (keepsFlags_of_p rfl).trans (State.setNZ_keepsFlags _ _ _)
  | pla | plx | ply =>
    exact (keepsFlags_of_p (s.pullSized_p _)).trans (State.setNZ_keepsFlags _ _ _)
  | adc | sbc => exact (keepsFlags_of_p (s.writeA_p _ _)).trans (State.setAddFlags_keepsFlags _ _ _)
  | cmp | cpx | cpy => exact s.compare_keepsFlags _ _ _
  | bit => exact bit_keepsFlags o ea s
  | tsb | trb | clc | sec | cli | sei | cld | sed | clv => exact s.setFlag_keepsFlags _ _
  | asl | lsr | rol | ror =>
    simp only [handlerOf]
    exact rmw_keepsFlags _ o ea s
  | inc | dec =>
    simp only [handlerOf]
    exact rmw_keepsFlags_of_carry_none (fun _ _ _ => rfl) o ea s
  | brk | cop => exact s.takeInterrupt_keepsFlags _
  | xce =>
    intro f hf
    refine (flag_xce o ea s f).trans ?_
    cases f <;> simp [flagsWritten] at hf ⊢
  | plp | rti | rep | sep =>
    intro f hf
    cases f <;> simp [flagsWritten] at hf
  | _ => exact keepsFlags_of_p (handlerOf_keepsParts _ o ea s .p (by decide))

end Sys2Proof.Machine
end

section
/-! Who writes what: the register, flag and accumulator rules of spec/10_state.md, read off the footprints of the handlers. -/

namespace Sys2Proof.Machine

theorem KeepsParts.mem_of_changed {ps : List Part} {s t : State} (k : KeepsParts ps s t) {r : Part} (h : ¬ r.Same s t) :
    r ∈ ps := not_imp_comm.mp (k r) h

theorem KeepsFlags.mem_of_changed {fs : List Flag} {s t : State} (k : KeepsFlags fs s t) {f : Flag}
    (h : t.flag f ≠ s.flag f) : f ∈ fs := not_imp_comm.mp (k f) h

/-- What an instruction may write: PC and CYC, when it is consumed, and what its handler writes. -/
def stepFootprint (op : Op) : List Part := .pc :: .cyc :: footprint op

theorem eq_handlerOf_of_exec {i : Instr} {s t : State} {op : Op} (h : exec i s = .next t) (hop : i.op = op) :
    t = handlerOf op i.operand (s.eaOf i) (s.advance op i.operand) := hop ▸ eq_of_exec h

theorem exec_keepsParts {i : Instr} {s t : State} (h : exec i s = .next t) :
    KeepsParts (stepFootprint i.op) s t := by
  have hadvance : KeepsParts [.pc, .cyc] s (s.advance i.op i.operand) := .of_restore rfl
  rw [eq_of_exec h]
  exact hadvance.trans (handlerOf_keepsParts _ _ _ _)

theorem exec_keepsFlags {i : Instr} {s t : State} (h : exec i s = .next t) : KeepsFlags (flagsWritten i.op) s t := by
  rw [eq_of_exec h]
  exact (keepsFlags_of_p (s.advance_p i.op i.operand)).trans (handlerOf_keepsFlags _ _ _ _)

/-! ### Control registers (spec/10_state.md R23 to R29, R39) -/

theorem jmp_pbr (o : Operand) (ea : Addr) (s : State) :
    (jmp o ea s).pbr = if o.mode = .alng ∨ o.mode = .abil then bankOf ea else s.pbr := rfl

theorem State.returnFromInterrupt_pbr (s : State) :
    s.returnFromInterrupt.pbr = if s.e then s.pbr else s.pulledByte 3 := rfl

theorem wdm_halted (o : Operand) (ea : Addr) (s : State) :
    (wdm o ea s).halted = (s.halted || s.cfg.wdmStop.contains (lo (s.operandValue true o ea))) := rfl

/-- JMP loads PBR in its long forms alone (spec/49_control_special.md R305). -/
theorem pbr_of_exec_jmp {i : Instr} {s t : State} (h : exec i s = .next t) (hop : i.op = .jmp)
    (hm : i.operand.mode ∉ [.alng, .abil]) : t.pbr = s.pbr := by
  rw [eq_handlerOf_of_exec h hop]
  refine (jmp_pbr ..).trans (if_neg ?_)
  simpa using hm

/-- RTI leaves PBR alone in emulation mode (spec/49_control_special.md R312). -/
theorem pbr_of_exec_rti {i : Instr} {s t : State} (h : exec i s = .next t) (hop : i.op = .rti) (he : s.e = true) :
    t.pbr = s.pbr := by
  rw [eq_handlerOf_of_exec h hop]
  exact (State.returnFromInterrupt_pbr _).trans (if_pos he)

/-- WDM can only set HALTED (spec/49_control_special.md R317). -/
theorem halted_of_exec_wdm {i : Instr} {s t : State} (h : exec i s = .next t) (hop : i.op = .wdm)
    (hne : t.halted ≠ s.halted) : t.halted = true := by
  obtain ⟨stop, ht⟩ : ∃ stop, t.halted = (s.halted || stop) := by
    rw [eq_handlerOf_of_exec h hop]
    exact ⟨_, wdm_halted ..⟩
  rw [ht] at hne ⊢
  cases hs : s.halted with
  | true => exact Bool.true_or _
  | false => simpa [hs] using hne

/-- The control registers in the footprints. -/
theorem footprint_controlRegisters (op : Op) :
    (.e ∈ stepFootprint op → op = .xce) ∧
    (.pbr ∈ stepFootprint op → op ∈ [.jsl, .rtl, .brk, .cop] ∨ op = .rti ∨ op = .jmp) ∧
    (.dbr ∈ stepFootprint op → op ∈ [.plb, .mvn, .mvp]) ∧
    (.dp ∈ stepFootprint op → op ∈ [.tcd, .pld]) ∧
    (.sp ∈ stepFootprint op → op ∈ [.pha, .phx, .phy, .php, .phb, .phd, .phk, .pla, .plx, .ply, .plp, .plb, .pld,
      .pea, .pei, .per, .jsr, .jsl, .rts, .rtl, .rti, .brk, .cop, .txs, .tcs, .xce]) ∧
    (.halted ∈ stepFootprint op → op = .wdm) := by
  cases op <;> decide

/-- Settles O20: each register is in the footprint of the mnemonics the rules name for it; JMP and RTI are refined by mode, WDM
by the value. -/
theorem controlRegisterWriters : Obligations.ControlRegisterWriters := by
  intro i s t h
  have k := exec_keepsParts h
  obtain ⟨he, hpbr, hdbr, hdp, hsp, hhalted⟩ := footprint_controlRegisters i.op
  refine ⟨fun c => he (k.mem_of_changed c), fun c => ?_, fun c => hdbr (k.mem_of_changed c), fun c => hdp (k.mem_of_changed c),
    fun c => hsp (k.mem_of_changed c), fun c => ?_⟩
  · rcases hpbr (k.mem_of_changed c) with hop | hop | hop
    · exact .inl hop
    · exact .inr (.inl ⟨hop, eq_false_of_ne_true fun e => c (pbr_of_exec_rti h hop e)⟩)
    · exact .inr (.inr ⟨hop, by_contra fun hm => c (pbr_of_exec_jmp h hop hm)⟩)
  · have hop := hhalted (k.mem_of_changed c)
    exact ⟨hop, halted_of_exec_wdm h hop c⟩

/-! ### Flags (spec/10_state.md R35) -/

/-- BIT in the immediate form writes Z alone (spec/42_alu.md R179). -/
theorem keepsFlags_of_exec_bit_imm {i : Instr} {s t : State} (h : exec i s = .next t) (hop : i.op = .bit)
    (hm : i.operand.mode = .immm) : KeepsFlags [.z] s t := by
  rw [eq_handlerOf_of_exec h hop]
  exact (keepsFlags_of_p (s.advance_p .bit i.operand)).trans (bit_imm_keepsFlags hm _ _)

/-- The flags written, by mnemonic, as R35 lists them. -/
theorem flagsWritten_writers (op : Op) (hop : op ∉ [.plp, .rti, .rep, .sep]) :
    (.c ∈ flagsWritten op → op ∈ [.adc, .sbc, .cmp, .cpx, .cpy, .asl, .lsr, .rol, .ror, .clc, .sec, .xce]) ∧
    (.z ∈ flagsWritten op ∨ .n ∈ flagsWritten op → op ∈ [.lda, .ldx, .ldy, .adc, .sbc, .and, .ora, .eor, .cmp, .cpx, .cpy,
      .asl, .lsr, .rol, .ror, .inc, .dec, .inx, .iny, .dex, .dey, .pla, .plx, .ply, .plb, .pld, .tax, .tay, .txa, .tya, .txy,
      .tyx, .tsx, .tsc, .tcd, .tdc, .xba, .bit, .tsb, .trb]) ∧
    (.n ∈ flagsWritten op → op ∉ [.tsb, .trb]) ∧
    (.i ∈ flagsWritten op → op ∈ [.brk, .cop, .sei, .cli]) ∧
    (.d ∈ flagsWritten op → op ∈ [.brk, .cop, .sed, .cld]) ∧
    (.x ∈ flagsWritten op ∨ .m ∈ flagsWritten op → op = .xce) ∧
    (.v ∈ flagsWritten op → op ∈ [.adc, .sbc, .clv] ∨ op = .bit) := by
  revert hop
  cases op <;> decide

/-- Settles O21: each flag is written by the mnemonics that R35 lists for it; BIT is refined by its mode. -/
theorem flagWriters : Obligations.FlagWriters := by
  intro i s t h hop
  have k := exec_keepsFlags h
  obtain ⟨hc, hzn, hn, hi, hd, hxm, hv⟩ := flagsWritten_writers i.op hop
  refine ⟨fun c => hc (k.mem_of_changed c), fun c => hzn (c.imp k.mem_of_changed k.mem_of_changed),
    fun c => ⟨hn (k.mem_of_changed c), fun hbit => c ?_⟩, fun c => hi (k.mem_of_changed c), fun c => hd (k.mem_of_changed c),
    fun c => hxm (c.imp k.mem_of_changed k.mem_of_changed),
    fun c => (hv (k.mem_of_changed c)).imp_right fun hb => ⟨hb, fun hm => c ?_⟩⟩
  · exact keepsFlags_of_exec_bit_imm h hbit.1 hbit.2 .n (by decide)
  · exact keepsFlags_of_exec_bit_imm h hb hm .v (by decide)

/-! ### The accumulator's high byte (spec/10_state.md R21) -/

theorem hi_writeA_of_narrow {n : Bool} (hn : n = true) (s : State) (v : Word) : hi (s.writeA n v).a = hi s.a := by
  rw [hn]
  exact s.hi_writeA_true v

theorem hi_rmw_a_of_m8 (f : Bool → Bool → Word → RmwResult) (o : Operand) (ea : Addr) {s : State} (hm : s.m8 = true) :
    hi (rmw f o ea s).a = hi s.a := by
  by_cases h : o.mode = .acc
  · rw [rmw_acc f o ea s h, State.setRmwFlags_a]
    exact hi_writeA_of_narrow hm s _
  · rw [rmw_mem f o ea s h, State.setRmwFlags_a, State.writeSized_a]

/-- With an 8-bit accumulator a handler writes A through `writeA`, unless it is one of the five that R21 names. -/
theorem hi_handlerOf_a_of_m8 {op : Op} (hop : op ∉ [.tdc, .tsc, .xba, .mvn, .mvp]) (o : Operand) (ea : Addr) {s : State}
    (hm : s.m8 = true) : hi (handlerOf op o ea s).a = hi s.a := by
  cases op with
  | lda | adc | sbc | and | ora | eor | txa | tya => exact hi_writeA_of_narrow hm s _
  | pla => exact (hi_writeA_of_narrow hm _ _).trans (congrArg hi (s.pullSized_a _))
  | asl | lsr | rol | ror | inc | dec =>
    simp only [handlerOf]
    exact hi_rmw_a_of_m8 _ o ea hm
  | tdc | tsc | xba | mvn | mvp => exact absurd (by decide) hop
  | _ => exact congrArg hi (handlerOf_keepsParts _ o ea s .a (by decide))

/-- Settles O23. -/
theorem accumulatorHighByteKept : Obligations.AccumulatorHighByteKept := by
  intro i s t h hm hop
  rw [eq_of_exec h]
  exact hi_handlerOf_a_of_m8 hop _ _ ((s.advance_m8 _ _).trans hm)

end Sys2Proof.Machine
end

section
/-! The status register written whole: `SetP`, and the three instructions that are `SetP` of a value (spec/10_state.md R37). -/

namespace Sys2Proof.Machine

/-- Settles O43: `setP_setsP` says what is written; nothing but P, X and Y is. -/
theorem setPWritesTheWholeStatus : Obligations.SetPWritesTheWholeStatus := fun v s => ⟨s.setP_setsP v, rfl⟩

theorem exec_rep (m : Byte) (s : State) :
    exec (.rep m) s = .next ((s.advance .rep (.immb m)).setP (s.p &&& ~~~m)) := by
  have hm : rep (.immb m) (s.ea (.immb m)) (s.advance .rep (.immb m)) =
      (s.advance .rep (.immb m)).setP (s.p &&& ~~~(lo (zext m))) := rfl
  rw [lo_zext] at hm
  exact congrArg Host.Outcome.next hm

theorem exec_sep (m : Byte) (s : State) :
    exec (.sep m) s = .next ((s.advance .sep (.immb m)).setP (s.p ||| m)) := by
  have hm : sep (.immb m) (s.ea (.immb m)) (s.advance .sep (.immb m)) =
      (s.advance .sep (.immb m)).setP (s.p ||| lo (zext m)) := rfl
  rw [lo_zext] at hm
  exact congrArg Host.Outcome.next hm

/-- What `SetP` on the state with the instruction consumed does, for REP and SEP. -/
theorem advance_setP_frame (i : Instr) (v : Byte) (s : State) :
    let t := (s.advance i.op i.operand).setP v
    Advanced i s t ∧ SetsP v s t ∧ KeepsMemory s t ∧ { t with x := s.x, y := s.y, p := s.p, pc := s.pc, cyc := s.cyc } = s :=
  ⟨⟨s.advance_nextPc i, rfl⟩, State.setP_setsP _ v, State.keepsMemory_of_mem rfl rfl, rfl⟩

/-- Settles O44: each of the three is `SetP`, after PLP's pull, on the state with the instruction consumed. -/
theorem statusWrittenThroughSetP : Obligations.StatusWrittenThroughSetP := by
  refine ⟨fun s => ?_, fun m s => ?_, fun m s => ?_⟩
  · exact ⟨_, exec_eq_next .plp s, ⟨s.advance_nextPc .plp, rfl⟩, State.setP_setsP _ _, rfl,
      State.keepsMemory_of_mem rfl rfl, rfl⟩
  · exact ⟨_, exec_rep m s, advance_setP_frame (.rep m) _ s⟩
  · exact ⟨_, exec_sep m s, advance_setP_frame (.sep m) _ s⟩

end Sys2Proof.Machine
end

section
/-! The invariant (spec/10_state.md R32 to R34 and the memory's form): each of its four parts is kept by every handler, by the few
mnemonics that write what it speaks of for a reason of their own, and by all others because of their footprint. -/

namespace Sys2Proof.Machine

/-- E has one writer (spec/10_state.md R29). -/
theorem handlerOf_e {op : Op} (hop : op ≠ .xce) (o : Operand) (ea : Addr) (s : State) : (handlerOf op o ea s).e = s.e := by
  cases op with
  | xce => exact absurd rfl hop
  | _ => exact handlerOf_keepsParts _ o ea s .e (by decide)

/-- XCE puts the old C in E (spec/48_mode_control_flags.md R287). -/
theorem xce_e (o : Operand) (ea : Addr) (s : State) : (xce o ea s).e = s.flag .c := rfl

/-- The mnemonics that write E, M or X, and with them the widths in force (R30). -/
def widthWriters : List Op := [.plp, .rti, .rep, .sep, .xce]

theorem handlerOf_keepsWidths {op : Op} (hop : op ∉ widthWriters) (o : Operand) (ea : Addr) (s : State) :
    (handlerOf op o ea s).e = s.e ∧ (handlerOf op o ea s).flag .m = s.flag .m ∧ (handlerOf op o ea s).flag .x = s.flag .x := by
  have htables : .e ∉ footprint op ∧ .m ∉ flagsWritten op ∧ .x ∉ flagsWritten op := by
    revert hop
    cases op <;> decide
  obtain ⟨he, hm, hx⟩ := htables
  exact ⟨handlerOf_keepsParts op o ea s .e he, handlerOf_keepsFlags op o ea s .m hm, handlerOf_keepsFlags op o ea s .x hx⟩

/-! ### Mode forcing (R32) -/

theorem modeForced_of_same {s t : State} (h : s.modeForced) (he : t.e = s.e) (hm : t.flag .m = s.flag .m)
    (hx : t.flag .x = s.flag .x) : t.modeForced := by
  rw [State.modeForced, he, hm, hx]
  exact h

theorem State.setP_modeForced (s : State) (v : Byte) : (s.setP v).modeForced := by
  intro he
  have he : s.e = true := he
  simp [flag_setP, he]

theorem xce_modeForced (o : Operand) (ea : Addr) (s : State) : (xce o ea s).modeForced := by
  intro he
  rw [xce_e] at he
  simp [flag_xce, he]

theorem handlerOf_modeForced (op : Op) (o : Operand) (ea : Addr) {s : State} (h : s.modeForced) :
    (handlerOf op o ea s).modeForced := by
  by_cases hop : op ∈ widthWriters
  · cases op with
    | plp | rti | rep | sep => exact State.setP_modeForced _ _
    | xce => exact xce_modeForced o ea s
    | _ => exact absurd hop (by decide)
  · obtain ⟨he, hm, hx⟩ := handlerOf_keepsWidths hop o ea s
    exact modeForced_of_same h he hm hx

/-! ### Stack page (R33) -/

/-- In emulation mode no number of pushes or pulls leaves the page. -/
theorem State.hi_slot {s : State} (he : s.e = true) (k : Nat) : hi (s.slot k) = hi s.sp := by
  induction k with
  | zero => rfl
  | succ k ih => rw [slot, he, hi_spDown_emulation, ih]

theorem State.hi_pulledSp {s : State} (he : s.e = true) (k : Nat) : hi (s.pulledSp k) = hi s.sp := by
  induction k with
  | zero => rfl
  | succ k ih => rw [pulledSp, he, hi_spUp_emulation, ih]

theorem stackPaged_of_slot {s t : State} (h : s.stackPaged) (he : t.e = s.e) {k : Nat} (hsp : t.sp = s.slot k) :
    t.stackPaged := by
  intro hte
  have hse := he.symm.trans hte
  rw [hsp, State.hi_slot hse]
  exact h hse

theorem stackPaged_of_pulledSp {s t : State} (h : s.stackPaged) (he : t.e = s.e) {k : Nat} (hsp : t.sp = s.pulledSp k) :
    t.stackPaged := by
  intro hte
  have hse := he.symm.trans hte
  rw [hsp, State.hi_pulledSp hse]
  exact h hse

theorem State.returnFromInterrupt_sp (s : State) : s.returnFromInterrupt.sp = s.pulledSp (if s.e then 3 else 4) := by
  have hsp : s.returnFromInterrupt.sp = if s.e then s.pulledSp 3 else s.pulledSp 4 := rfl
  rw [hsp]
  split <;> rfl

theorem toSp_stackPaged (v : State → Word) (o : Operand) (ea : Addr) (s : State) : (toSp v o ea s).stackPaged := by
  intro he
  have he : s.e = true := he
  simp [toSp, he]

theorem xce_stackPaged (o : Operand) (ea : Addr) (s : State) : (xce o ea s).stackPaged := by
  intro he
  rw [xce_e] at he
  simp [xce, he]

theorem handlerOf_stackPaged (op : Op) (o : Operand) (ea : Addr) {s : State} (h : s.stackPaged) :
    (handlerOf op o ea s).stackPaged := by
  by_cases hop : op = .xce
  · rw [hop]
    exact xce_stackPaged o ea s
  have he := handlerOf_e hop o ea s
  cases op with
  | pha | phx | phy => exact stackPaged_of_slot h he (s.pushSized_pushed _ _).1
  | php | phb | phk => exact stackPaged_of_slot h he (k := 1) rfl
  | phd | pea | pei | per | jsr => exact stackPaged_of_slot h he (k := 2) rfl
  | jsl => exact stackPaged_of_slot h he (k := 3) rfl
  | brk | cop => exact stackPaged_of_slot h he s.pushFrame_pushed.1
  | pla | plx | ply => exact stackPaged_of_pulledSp h he (s.pullSized_sp _)
  | plp | plb => exact stackPaged_of_pulledSp h he (k := 1) rfl
  | pld | rts => exact stackPaged_of_pulledSp h he (k := 2) rfl
  | rtl => exact stackPaged_of_pulledSp h he (k := 3) rfl
  | rti => exact stackPaged_of_pulledSp h he s.returnFromInterrupt_sp
  | txs | tcs => exact toSp_stackPaged _ o ea s
  | xce => exact absurd rfl hop
  | _ => exact stackPaged_of_slot h he (k := 0) (handlerOf_keepsParts _ o ea s .sp (by decide))

/-! ### Index truncation (R34) -/

/-- A register that is as before or was written at its width. -/
def KeptOrClipped (narrow : Bool) (v w : Word) : Prop := w = v ∨ ∃ u, w = clip narrow u

theorem KeptOrClipped.hi_eq_zero {v w : Word} (h : KeptOrClipped true v w) (hv : hi v = 0x00) : hi w = 0x00 := by
  rcases h with rfl | ⟨u, rfl⟩
  · exact hv
  · exact hi_zext _

theorem indexTruncated_of_clipped {s t : State} (h : s.indexTruncated) (h8 : t.x8 = s.x8)
    (hx : KeptOrClipped s.x8 s.x t.x) (hy : KeptOrClipped s.x8 s.y t.y) : t.indexTruncated := by
  intro ht
  have hs := h8.symm.trans ht
  rw [hs] at hx hy
  exact ⟨hx.hi_eq_zero (h hs).1, hy.hi_eq_zero (h hs).2⟩

theorem handlerOf_x {op : Op} (hop : op ∉ widthWriters) (o : Operand) (ea : Addr) (s : State) :
    KeptOrClipped s.x8 s.x (handlerOf op o ea s).x := by
  cases op with
  | ldx | inx | dex | tax | tyx | tsx | plx | mvn | mvp => exact .inr ⟨_, rfl⟩
  | plp | rti | rep | sep | xce => exact absurd (by decide) hop
  | _ => exact .inl (handlerOf_keepsParts _ o ea s .x (by decide))

theorem handlerOf_y {op : Op} (hop : op ∉ widthWriters) (o : Operand) (ea : Addr) (s : State) :
    KeptOrClipped s.x8 s.y (handlerOf op o ea s).y := by
  cases op with
  | ldy | iny | dey | tay | txy | ply | mvn | mvp => exact .inr ⟨_, rfl⟩
  | plp | rti | rep | sep | xce => exact absurd (by decide) hop
  | _ => exact .inl (handlerOf_keepsParts _ o ea s .y (by decide))

theorem handlerOf_x8 {op : Op} (hop : op ∉ widthWriters) (o : Operand) (ea : Addr) (s : State) :
    (handlerOf op o ea s).x8 = s.x8 := by
  obtain ⟨he, -, hx⟩ := handlerOf_keepsWidths hop o ea s
  rw [State.x8, he, hx, State.x8]

/-- `SetP` truncates where X is now 1, and with mode forcing the index registers are 8 bits wide in no other case. -/
theorem State.setP_indexTruncated (s : State) (v : Byte) : (s.setP v).indexTruncated := by
  intro h8
  have hx : (s.setP v).flag .x = true := by
    rcases Bool.or_eq_true_iff.mp h8 with he | hx
    · exact (s.setP_modeForced v he).2
    · exact hx
  obtain ⟨-, htx, hty⟩ := s.setP_setsP v
  rw [htx, hty, hx]
  exact ⟨hi_zext _, hi_zext _⟩

theorem xce_indexTruncated (o : Operand) (ea : Addr) {s : State} (h : s.indexTruncated) : (xce o ea s).indexTruncated := by
  have hx : (xce o ea s).x = clip (s.flag .c) s.x := rfl
  have hy : (xce o ea s).y = clip (s.flag .c) s.y := rfl
  intro h8
  rw [hx, hy]
  cases hc : s.flag .c
  · have hflag : s.flag .x = true := by simpa [State.x8, xce_e, flag_xce, hc] using h8
    exact h (by rw [State.x8, hflag, Bool.or_true])
  · exact ⟨hi_zext _, hi_zext _⟩

theorem handlerOf_indexTruncated (op : Op) (o : Operand) (ea : Addr) {s : State} (h : s.indexTruncated) :
    (handlerOf op o ea s).indexTruncated := by
  by_cases hop : op ∈ widthWriters
  · cases op with
    | plp | rep | sep => exact State.setP_indexTruncated _ _
    | rti => exact s.pull8.2.setP_indexTruncated s.pull8.1
    | xce => exact xce_indexTruncated o ea h
    | _ => exact absurd hop (by decide)
  · exact indexTruncated_of_clipped h (handlerOf_x8 hop o ea s) (handlerOf_x hop o ea s) (handlerOf_y hop o ea s)

/-! ### The memory's form -/

namespace State

variable {s : State}

theorem writeByte_memoryInForm (h : s.memoryInForm) (a : Addr) (b : Byte) : (s.writeByte a b).memoryInForm :=
  Config.writeByte_inForm _ _ _ _ h.1 h.2

theorem writeSized_memoryInForm (h : s.memoryInForm) (n : Bool) (a : Addr) (v : Word) : (s.writeSized n a v).memoryInForm := by
  cases n
  · exact writeByte_memoryInForm (writeByte_memoryInForm h a (lo v)) (a + 1) (hi v)
  · exact writeByte_memoryInForm h a (lo v)

theorem push8_memoryInForm (h : s.memoryInForm) (v : Byte) : (s.push8 v).memoryInForm :=
  writeByte_memoryInForm h (addrOf 0x00 s.sp) v

theorem push16_memoryInForm (h : s.memoryInForm) (v : Word) : (s.push16 v).memoryInForm :=
  push8_memoryInForm (push8_memoryInForm h (hi v)) (lo v)

theorem pushSized_memoryInForm (h : s.memoryInForm) (n : Bool) (v : Word) : (s.pushSized n v).memoryInForm := by
  cases n
  · exact push16_memoryInForm h v
  · exact push8_memoryInForm h (lo v)

theorem pushFrame_memoryInForm (h : s.memoryInForm) : s.pushFrame.memoryInForm := by
  unfold pushFrame
  split
  · exact push8_memoryInForm (push16_memoryInForm h _) _
  · exact push8_memoryInForm (push16_memoryInForm (push8_memoryInForm h _) _) _

end State

theorem memoryInForm_of_same {s t : State} (h : s.memoryInForm) (hm : t.mem = s.mem) (hc : t.cfg = s.cfg) :
    t.memoryInForm := by
  rw [State.memoryInForm, hm, hc]
  exact h

theorem takeInterrupt_memoryInForm {s : State} (h : s.memoryInForm) (k : SoftInterrupt) :
    (s.takeInterrupt k).memoryInForm :=
  memoryInForm_of_same (State.pushFrame_memoryInForm h) (s.takeInterrupt_mem k) (by simp)

theorem jsl_memoryInForm (o : Operand) (ea : Addr) {s : State} (h : s.memoryInForm) : (jsl o ea s).memoryInForm :=
  memoryInForm_of_same (State.push16_memoryInForm (State.push8_memoryInForm h s.pbr) (s.pc - 1)) rfl rfl

theorem rmw_memoryInForm (f : Bool → Bool → Word → RmwResult) (o : Operand) (ea : Addr) {s : State} (h : s.memoryInForm) :
    (rmw f o ea s).memoryInForm := by
  by_cases ho : o.mode = .acc
  · rw [rmw_acc f o ea s ho]
    exact h
  · rw [rmw_mem f o ea s ho]
    exact State.writeSized_memoryInForm h _ _ _

theorem blockMove_memoryInForm (delta : Word) (o : Operand) (ea : Addr) {s : State} (h : s.memoryInForm) :
    (blockMove delta o ea s).memoryInForm :=
  memoryInForm_of_same (State.writeByte_memoryInForm h _ _) rfl rfl

/-- No handler writes the configuration (spec/20_memory.md R61). -/
theorem handlerOf_cfg (op : Op) (o : Operand) (ea : Addr) (s : State) : (handlerOf op o ea s).cfg = s.cfg :=
  handlerOf_keepsParts op o ea s .cfg (by cases op <;> decide)

theorem handlerOf_memoryInForm (op : Op) (o : Operand) (ea : Addr) {s : State} (h : s.memoryInForm) :
    (handlerOf op o ea s).memoryInForm := by
  have hcfg := handlerOf_cfg op o ea s
  cases op with
  | sta | stx | sty | stz | tsb | trb => exact State.writeSized_memoryInForm h _ _ _
  | asl | lsr | rol | ror | inc | dec =>
    simp only [handlerOf]
    exact rmw_memoryInForm _ o ea h
  | pha | phx | phy => exact State.pushSized_memoryInForm h _ _
  | php | phb | phk => exact State.push8_memoryInForm h _
  | phd | pea | pei | per | jsr => exact State.push16_memoryInForm h _
  | jsl => exact jsl_memoryInForm o ea h
  | brk | cop => exact takeInterrupt_memoryInForm h _
  | mvn | mvp =>
    simp only [handlerOf]
    exact blockMove_memoryInForm _ o ea h
  | _ => exact memoryInForm_of_same h (handlerOf_keepsParts _ o ea s .mem (by decide)) hcfg

/-! ### The invariant -/

/-- Every instruction keeps the invariant. -/
theorem exec_inv {i : Instr} {s t : State} (hs : s.Inv) (h : exec i s = .next t) : t.Inv := by
  rw [eq_of_exec h]
  obtain ⟨hmode, hstack, hindex, hmem⟩ := hs
  exact ⟨handlerOf_modeForced _ _ _ hmode, handlerOf_stackPaged _ _ _ hstack, handlerOf_indexTruncated _ _ _ hindex,
    handlerOf_memoryInForm _ _ _ hmem⟩

/-- The reset operation gives the invariant in any state whose memory is in form. -/
theorem State.hostReset_inv {s : State} (h : s.memoryInForm) : s.hostReset.Inv where
  modeForced _ := by
    have hp : s.hostReset.p = 0x34 := rfl
    simp [flag, hp, Flag.bit]
  stackPaged _ := (by decide : hi 0x0100 = 0x01)
  indexTruncated _ := ⟨hi_zext _, hi_zext _⟩
  memoryInForm := h

/-- Whatever the host does at a boundary keeps the invariant. -/
theorem State.hostBoundary_inv {s : State} (h : s.Inv) : s.hostBoundary.Inv := by
  obtain ⟨hmode, hstack, hindex, hmem⟩ := h
  unfold hostBoundary
  split
  · exact ⟨hmode, hstack, hindex, hmem⟩
  · dsimp only
    split
    · exact State.hostReset_inv hmem
    · exact ⟨hmode, hstack, hindex, hmem⟩

/-- Settles O15: the state after reset is what the reset operation leaves. -/
theorem invariantHoldsAfterReset : Obligations.InvariantHoldsAfterReset :=
  State.hostReset_inv (s := State.powerOn) State.reset_memoryInForm

/-- Settles O16: the host keeps the invariant at the boundary, and every instruction keeps it. -/
theorem stepKeepsTheInvariant : Obligations.StepKeepsTheInvariant := by
  intro s t hs h
  obtain ⟨-, -, hexec⟩ := step_cases h
  exact exec_inv (State.hostBoundary_inv hs) hexec

/-- Settles O13: R41's values are those of `State.reset`, and its configuration is accepted. -/
theorem stateAfterReset : Obligations.StateAfterReset :=
  ⟨rfl, rfl, rfl, rfl, rfl, rfl, rfl, hi_zext _, hi_zext _, rfl, rfl, by decide⟩

end Sys2Proof.Machine
end

section
/-! Memory (spec/20_memory.md): no step writes the configuration or the ROM, which instructions write memory at all, and what one
byte written changes. -/

namespace Sys2Proof.Machine

/-- No instruction writes the configuration. -/
theorem exec_cfg {i : Instr} {s t : State} (h : exec i s = .next t) : t.cfg = s.cfg := by
  rw [eq_of_exec h]
  exact handlerOf_cfg _ _ _ _

/-- A byte of the ROM region is the configuration's: it reads alike whatever memory holds (R62). -/
theorem State.readByte_of_rom {s t : State} (hc : t.cfg = s.cfg) {a : Addr} (ha : s.cfg.ramSize ≤ s.cfg.index a) :
    t.readByte a = s.readByte a := by
  rw [State.readByte, State.readByte, hc, Config.readByte_rom _ _ _ ha, Config.readByte_rom _ _ _ ha]

/-- Settles O17: neither the host at the boundary nor the instruction writes the configuration, which holds the ROM. -/
theorem stepKeepsConfigurationAndRom : Obligations.StepKeepsConfigurationAndRom := by
  intro s t h
  obtain ⟨-, -, hexec⟩ := step_cases h
  have hcfg : t.cfg = s.cfg := (exec_cfg hexec).trans s.hostBoundary_cfg
  exact ⟨hcfg, fun _ ha => State.readByte_of_rom hcfg ha⟩

/-- The accumulator form of a read-modify-write stores nothing. -/
theorem rmw_mem_of_acc (f : Bool → Bool → Word → RmwResult) {o : Operand} (ho : o.mode = .acc) (ea : Addr) (s : State) :
    (rmw f o ea s).mem = s.mem := by
  rw [rmw_acc f o ea s ho, State.setRmwFlags_mem, State.writeA_mem]

theorem handlerOf_mem_of_acc {op : Op} (hop : op ∈ [.asl, .lsr, .rol, .ror, .inc, .dec]) {o : Operand} (ho : o.mode = .acc)
    (ea : Addr) (s : State) : (handlerOf op o ea s).mem = s.mem := by
  cases op with
  | asl | lsr | rol | ror | inc | dec =>
    simp only [handlerOf]
    exact rmw_mem_of_acc _ ho ea s
  | _ => exact absurd hop (by decide)

/-- Memory in the footprints. -/
theorem mem_not_mem_stepFootprint {op : Op} (hop : op ∉ [.sta, .stx, .sty, .stz, .tsb, .trb, .pha, .phx, .phy, .php, .phb,
    .phd, .phk, .pea, .pei, .per, .mvn, .mvp, .jsr, .jsl, .brk, .cop])
    (hrmw : op ∉ [.asl, .lsr, .rol, .ror, .inc, .dec]) : .mem ∉ stepFootprint op := by
  revert hop hrmw
  cases op <;> decide

/-- Settles O22: memory is in the footprint of the writers and of the read-modify-writes alone, and these store nothing in mode
ACC. -/
theorem memoryWriters : Obligations.MemoryWriters := by
  intro i s t h hop hrmw
  refine State.keepsMemory_of_mem (exec_cfg h) ?_
  by_cases hr : i.op ∈ [.asl, .lsr, .rol, .ror, .inc, .dec]
  · have hacc : i.operand.mode = .acc := not_not.mp fun hm => hrmw ⟨hr, hm⟩
    rw [eq_of_exec h]
    exact handlerOf_mem_of_acc hr hacc _ _
  · exact exec_keepsParts h .mem (mem_not_mem_stepFootprint hop hr)

/-- Settles O24. -/
theorem byteRoundTrip : Obligations.ByteRoundTrip := by
  intro s a b v
  refine ⟨fun ha hb => ?_, fun ha => ?_, fun hb => ?_⟩
  · exact Config.readByte_writeByte_same _ _ _ _ _ ha hb
  · exact State.readByte_of_mem (State.writeByte_cfg s a v) (Config.writeByte_rom _ _ _ _ ha) b
  · exact Config.readByte_writeByte_other _ _ _ _ _ hb

end Sys2Proof.Machine
end

section
/-! The operand an instruction reads from the bytes after its opcode (spec/30_encoding.md R91 to R93, R99). -/

namespace Sys2Proof

open Sys2Proof.Machine

/-- The operand that a mode takes from the readings of the bytes after the opcode (spec/30_encoding.md R91). -/
def RawOperand.read (r : RawOperand) : Mode → Operand
  | .impl => .impl
  | .acc => .acc
  | .immb => .immb r.b1
  | .immw => .immw r.w
  | .immm => .immm r.vm
  | .immx => .immx r.vx
  | .abs => .abs r.w
  | .absx => .absx r.w
  | .absy => .absy r.w
  | .absi => .absi r.w
  | .abxi => .abxi r.w
  | .alng => .alng r.l
  | .alnx => .alnx r.l
  | .abil => .abil r.w
  | .dpag => .dpag r.b1
  | .dpgx => .dpgx r.b1
  | .dpgy => .dpgy r.b1
  | .dpgi => .dpgi r.b1
  | .dpix => .dpix r.b1
  | .dpiy => .dpiy r.b1
  | .dpil => .dpil r.b1
  | .dily => .dily r.b1
  | .rela => .rela r.b1
  | .lrel => .lrel r.w
  | .srel => .srel r.b1
  | .sriy => .sriy r.b1

@[simp] theorem RawOperand.mode_read (r : RawOperand) (m : Mode) : (r.read m).mode = m := by cases m <;> rfl

/-- The readings of the bytes after an opcode, a byte past their end reading as 0, as `decode` takes them. -/
def readings (m8 x8 : Bool) (l : List Byte) : RawOperand := rawOperand m8 x8 (l.getD 0 0) (l.getD 1 0) (l.getD 2 0)

theorem Mode.operandBytes_le_three (m8 x8 : Bool) (m : Mode) : m.operandBytes m8 x8 ≤ 3 := by
  cases m with
  | immm => cases m8 <;> simp [Mode.operandBytes, accessSize]
  | immx => cases x8 <;> simp [Mode.operandBytes, accessSize]
  | _ => simp [Mode.operandBytes]

/-- An operand has as many bytes as its mode takes (R99). -/
theorem Operand.length_bytes (m8 x8 : Bool) (o : Operand) : (o.bytes m8 x8).length = o.size m8 x8 := by
  cases o with
  | immm v => cases m8 <;> rfl
  | immx v => cases x8 <;> rfl
  | _ => rfl

/-- What a mode reads fits the widths in force. -/
theorem wf_read (m8 x8 : Bool) (b1 b2 b3 : Byte) (m : Mode) : ((rawOperand m8 x8 b1 b2 b3).read m).wf m8 x8 = true := by
  cases m with
  | immm => cases m8 <;> simp [RawOperand.read, rawOperand, Operand.wf, zext_toNat, b1.isLt]
  | immx => cases x8 <;> simp [RawOperand.read, rawOperand, Operand.wf, zext_toNat, b1.isLt]
  | _ => rfl

/-- The bytes of what a mode reads are the bytes it was read from. -/
theorem bytes_read (m8 x8 : Bool) (b1 b2 b3 : Byte) (m : Mode) :
    ((rawOperand m8 x8 b1 b2 b3).read m).bytes m8 x8 = [b1, b2, b3].take (m.operandBytes m8 x8) := by
  cases m with
  | immm => cases m8 <;> simp [RawOperand.read, rawOperand, Operand.bytes, Mode.operandBytes, accessSize]
  | immx => cases x8 <;> simp [RawOperand.read, rawOperand, Operand.bytes, Mode.operandBytes, accessSize]
  | _ => simp [RawOperand.read, rawOperand, Operand.bytes, Mode.operandBytes]

/-- The first bytes of a list, read one by one, are those of the list as far as it goes. -/
theorem take_getD_three {n : Nat} (hn : n ≤ 3) {l : List Byte} (hl : n ≤ l.length) :
    [l.getD 0 0, l.getD 1 0, l.getD 2 0].take n = l.take n := by
  refine List.ext_getElem? fun k => ?_
  match k with
  | 0 | 1 | 2 => grind
  | k + 3 => grind

theorem bytes_read_readings {m8 x8 : Bool} {m : Mode} {l : List Byte} (hl : m.operandBytes m8 x8 ≤ l.length) :
    ((readings m8 x8 l).read m).bytes m8 x8 = l.take (m.operandBytes m8 x8) := by
  rw [readings, bytes_read, take_getD_three (m.operandBytes_le_three m8 x8) hl]

theorem zext_lo_of_toNat_lt {v : Word} (h : v.toNat < 256) : zext (lo v) = v :=
  zext_lo_of_hi (BitVec.eq_of_toNat_eq ((hi_toNat v).trans (Nat.div_eq_of_lt h)))

/-- Reading back the bytes of an operand that fits the widths gives the operand, whatever follows. -/
theorem read_bytes {m8 x8 : Bool} {o : Operand} (h : o.wf m8 x8 = true) (rest : List Byte) :
    (readings m8 x8 (o.bytes m8 x8 ++ rest)).read o.mode = o := by
  cases o with
  | immm v =>
    cases m8 with
    | false => simp [readings, rawOperand, Operand.bytes, Operand.mode, RawOperand.read]
    | true =>
      have hv : v.toNat < 256 := by simpa [Operand.wf] using h
      simp [readings, rawOperand, Operand.bytes, Operand.mode, RawOperand.read, zext_lo_of_toNat_lt hv]
  | immx v =>
    cases x8 with
    | false => simp [readings, rawOperand, Operand.bytes, Operand.mode, RawOperand.read]
    | true =>
      have hv : v.toNat < 256 := by simpa [Operand.wf] using h
      simp [readings, rawOperand, Operand.bytes, Operand.mode, RawOperand.read, zext_lo_of_toNat_lt hv]
  | _ => simp [readings, rawOperand, Operand.bytes, Operand.mode, RawOperand.read]

/-- What a mode reads depends on a width flag only where the flag sizes it (R93). -/
theorem read_eq_of_widths {m8 x8 m8' x8' : Bool} {m : Mode} (hm : m ≠ .immm ∨ m8 = m8') (hx : m ≠ .immx ∨ x8 = x8')
    (b1 b2 b3 : Byte) : (rawOperand m8 x8 b1 b2 b3).read m = (rawOperand m8' x8' b1 b2 b3).read m := by
  cases m with
  | immm => rw [hm.resolve_left (· rfl)]; rfl
  | immx => rw [hx.resolve_left (· rfl)]; rfl
  | _ => rfl

end Sys2Proof
end

section
/-! Decoding, opcode by opcode (spec/30_encoding.md R94): the instruction an opcode selects, and the operand it takes. -/

namespace Sys2Proof

open Sys2Proof.Machine

/-- An instruction's opcode selects that instruction, where the bytes after it read as its operand. -/
theorem decodeBytes_eq_of_read {m8 x8 : Bool} {b1 b2 b3 : Byte} {i : Instr}
    (h : (rawOperand m8 x8 b1 b2 b3).read i.operand.mode = i.operand) : decodeBytes m8 x8 i.opcode b1 b2 b3 = i := by
  cases i with
  | mvn dst src | mvp dst src =>
    have hw : wordOf b2 b1 = wordOf src dst := Operand.immw.inj h
    obtain rfl : b1 = dst := by simpa using congrArg lo hw
    obtain rfl : b2 = src := by simpa using congrArg hi hw
    change decodeBytes m8 x8 (.ofNat 8 _) b1 b2 b3 = _
    rfl
  | _ =>
    injection h
    subst_vars
    change decodeBytes m8 x8 (.ofNat 8 _) b1 b2 b3 = _
    rfl

/-- Whatever bytes follow an instruction's opcode, it selects an instruction of that opcode, whose operand is what the mode reads
from them. -/
theorem decodeBytes_opcode_operand (m8 x8 : Bool) (i : Instr) (b1 b2 b3 : Byte) :
    (decodeBytes m8 x8 i.opcode b1 b2 b3).opcode = i.opcode ∧
    (decodeBytes m8 x8 i.opcode b1 b2 b3).operand = (rawOperand m8 x8 b1 b2 b3).read i.operand.mode := by
  cases i with
  | _ =>
    change (decodeBytes m8 x8 (.ofNat 8 _) b1 b2 b3).opcode = _ ∧ (decodeBytes m8 x8 (.ofNat 8 _) b1 b2 b3).operand = _
    exact ⟨rfl, rfl⟩

/-- Every byte is an opcode (spec/30_encoding.md R96). -/
theorem exists_opcode (b : Byte) : ∃ i : Instr, i.opcode = b := by
  have h : ∀ row col : BitVec 4, (decodeBytes true true (row ++ col) 0 0 0).opcode = row ++ col := by decide
  have hb : b.extractLsb' 4 4 ++ b.extractLsb' 0 4 = b :=
    (BitVec.extractLsb'_append_extractLsb'_eq_extractLsb' (by rfl)).trans BitVec.extractLsb'_eq_self
  exact ⟨_, hb ▸ h _ _⟩

/-- What is decoded has the first byte as its opcode, and the operand that its mode reads from the bytes after it. -/
theorem opcode_operand_of_decodeBytes {m8 x8 : Bool} {b0 b1 b2 b3 : Byte} {i : Instr}
    (h : decodeBytes m8 x8 b0 b1 b2 b3 = i) :
    i.opcode = b0 ∧ i.operand = (rawOperand m8 x8 b1 b2 b3).read i.operand.mode := by
  obtain ⟨j, rfl⟩ := exists_opcode b0
  obtain ⟨hop, hoperand⟩ := decodeBytes_opcode_operand m8 x8 j b1 b2 b3
  rw [h] at hop hoperand
  exact ⟨hop, by rw [hoperand, RawOperand.mode_read]⟩

/-- What `decode` answers: the instruction the opcode selects, with the bytes after its operand, where all of its operand is
there. -/
theorem decode_eq_ok_iff {m8 x8 : Bool} {b0 : Byte} {l rest : List Byte} {i : Instr} :
    decode m8 x8 (b0 :: l) = .ok (i, rest) ↔
      decodeBytes m8 x8 b0 (l.getD 0 0) (l.getD 1 0) (l.getD 2 0) = i ∧
      i.operand.size m8 x8 ≤ l.length ∧ l.drop (i.operand.size m8 x8) = rest := by
  unfold decode
  split <;> grind

/-- The length of an encoding is one more than what its mode takes (R99). -/
theorem length_encode (m8 x8 : Bool) (i : Instr) : (encode m8 x8 i).length = 1 + i.operand.mode.operandBytes m8 x8 := by
  rw [encode, List.length_cons, Operand.length_bytes, Nat.add_comm]
  rfl

end Sys2Proof
end

section
/-! The opcode map read by mnemonic and by mode (spec/30_encoding.md R93 to R95): the entries that satisfy a predicate, collected
in one walk along the rows, so that a list of opcodes is compared with the map by evaluation. -/

namespace Sys2Proof

open Sys2Proof.Machine

/-- The opcodes in row `h` of the opcode map whose mnemonic and mode satisfy `p`, each with its mode. -/
def rowFormsWhere (p : Op × Mode → Bool) (h : Nat) (row : List (Op × Mode)) : List (Byte × Mode) :=
  row.zipIdx.filterMap fun x => if p x.1 then some (BitVec.ofNat 8 (16 * h + x.2), x.1.2) else none

/-- The opcodes whose mnemonic and mode in the opcode map satisfy `p`, each with its mode. -/
def formsWhere (p : Op × Mode → Bool) : List (Byte × Mode) := opcodeMap.zipIdx.flatMap fun x => rowFormsWhere p x.2 x.1

theorem toNat_highDigit (b : Byte) : (b.extractLsb' 4 4).toNat = b.toNat / 16 := by
  rw [BitVec.extractLsb'_toNat, Nat.shiftRight_eq_div_pow]
  omega

theorem toNat_lowDigit (b : Byte) : (b.extractLsb' 0 4).toNat = b.toNat % 16 := BitVec.extractLsb'_toNat ..

/-- The opcode map is 16 rows of 16 entries: the entry of an opcode stands where its two digits say. -/
theorem opcodeEntry_eq_some_iff {b : Byte} {e : Op × Mode} :
    opcodeEntry b = some e ↔ ∃ row h l, opcodeMap[h]? = some row ∧ row[l]? = some e ∧ BitVec.ofNat 8 (16 * h + l) = b := by
  have hrow : ∀ row ∈ opcodeMap, row.length = 16 := by decide
  rw [opcodeEntry, Option.bind_eq_some_iff, toNat_highDigit, toNat_lowDigit]
  constructor
  · rintro ⟨row, hr, he⟩
    exact ⟨row, _, _, hr, he, by rw [Nat.div_add_mod, BitVec.ofNat_toNat, BitVec.setWidth_eq]⟩
  · rintro ⟨row, h, l, hr, he, rfl⟩
    have hh : h < 16 := (List.getElem?_eq_some_iff.mp hr).1
    have hl : l < 16 := hrow row (List.mem_of_getElem? hr) ▸ (List.getElem?_eq_some_iff.mp he).1
    have hb : (BitVec.ofNat 8 (16 * h + l)).toNat = 16 * h + l := Nat.mod_eq_of_lt (by omega)
    have hdiv : (16 * h + l) / 16 = h := by omega
    have hmod : (16 * h + l) % 16 = l := by omega
    rw [hb, hdiv, hmod]
    exact ⟨row, hr, he⟩

/-- A byte and a mode are among the forms where the map's entry at the byte is of that mode and satisfies `p`. -/
theorem mem_formsWhere {p : Op × Mode → Bool} {b : Byte} {m : Mode} :
    (b, m) ∈ formsWhere p ↔ ∃ o, opcodeEntry b = some (o, m) ∧ p (o, m) = true := by
  simp only [formsWhere, rowFormsWhere, List.mem_flatMap, List.mem_filterMap, opcodeEntry_eq_some_iff]
  constructor
  · rintro ⟨⟨row, h⟩, hr, ⟨⟨o, m'⟩, l⟩, he, hp⟩
    rw [List.mem_zipIdx_iff_getElem?] at hr he
    grind
  · rintro ⟨o, ⟨row, h, l, hr, he, rfl⟩, hp⟩
    exact ⟨(row, h), List.mem_zipIdx_iff_getElem?.mpr hr, ((o, m), l), List.mem_zipIdx_iff_getElem?.mpr he, by simp [hp]⟩

/-- Whether an instruction is among the forms is what `p` says of its mnemonic and mode. -/
theorem opcode_mem_formsWhere {p : Op × Mode → Bool} {i : Instr} {m : Mode} :
    (i.opcode, m) ∈ formsWhere p ↔ i.operand.mode = m ∧ p (i.op, m) = true := by
  rw [mem_formsWhere, opcodeEntry_opcode]
  grind

/-- The forms of a mnemonic are the entries of the opcode map that hold it. -/
theorem encodes_of_formsWhere {op : Op} {forms : List (Byte × Mode)} (h : formsWhere (·.1 = op) = forms) :
    Encodes op forms := by
  intro i
  rw [← h, opcode_mem_formsWhere]
  simp

/-- The opcodes of a mode are the entries of the opcode map that hold it. -/
theorem mode_eq_iff_of_formsWhere {m : Mode} {opcodes : List Byte} (h : (formsWhere (·.2 = m)).map Prod.fst = opcodes)
    (i : Instr) : i.operand.mode = m ↔ i.opcode ∈ opcodes := by
  rw [← h, List.mem_map]
  constructor
  · intro hm
    exact ⟨(i.opcode, m), opcode_mem_formsWhere.mpr ⟨hm, by simp⟩, rfl⟩
  · rintro ⟨⟨b, m'⟩, hmem, rfl⟩
    obtain ⟨rfl, hp⟩ := opcode_mem_formsWhere.mp hmem
    exact of_decide_eq_true hp

theorem mode_eq_immm_iff (i : Instr) :
    i.operand.mode = .immm ↔ i.opcode ∈ [0x09, 0x29, 0x49, 0x69, 0x89, 0xA9, 0xC9, 0xE9] :=
  mode_eq_iff_of_formsWhere rfl i

theorem mode_eq_immx_iff (i : Instr) : i.operand.mode = .immx ↔ i.opcode ∈ [0xA0, 0xA2, 0xC0, 0xE0] :=
  mode_eq_iff_of_formsWhere rfl i

end Sys2Proof
end

section
/-! The statements about the encoding (spec/30_encoding.md). -/

namespace Sys2Proof

open Sys2Proof.Machine

/-- Settles O1: the bytes after the opcode read back as the operand, so the opcode selects the instruction. -/
theorem decodeInvertsEncode : Obligations.DecodeInvertsEncode := by
  intro m8 x8 i rest hwf
  have hlen := i.operand.length_bytes m8 x8
  rw [encode, List.cons_append]
  refine decode_eq_ok_iff.mpr ⟨decodeBytes_eq_of_read (read_bytes hwf rest), ?_, ?_⟩
  · rw [List.length_append, hlen]
    exact Nat.le_add_right _ _
  · rw [← hlen, List.drop_left]

/-- Settles O2: what was decoded is the opcode with the operand its mode reads, whose bytes are the first of those it was read
from. -/
theorem encodeInvertsDecode : Obligations.EncodeInvertsDecode := by
  intro m8 x8 bytes i rest h
  cases bytes with
  | nil => cases h
  | cons b0 l =>
    obtain ⟨hdec, hlen, rfl⟩ := decode_eq_ok_iff.mp h
    obtain ⟨rfl, hread⟩ := opcode_operand_of_decodeBytes hdec
    have hwf : i.wf m8 x8 = true := by
      rw [Instr.wf, hread]
      exact wf_read ..
    have hbytes : i.operand.bytes m8 x8 = l.take (i.operand.size m8 x8) :=
      (congrArg (Operand.bytes m8 x8) hread).trans (bytes_read_readings hlen)
    exact ⟨hwf, by rw [encode, hbytes, List.cons_append, List.take_append_drop]⟩

/-- Settles O3: three operand bytes are enough for every mode. -/
theorem noEncodingIsIllegal : Obligations.NoEncodingIsIllegal := by
  intro m8 x8 b0 b1 b2 b3 rest
  refine ⟨_, _, decode_eq_ok_iff.mpr ⟨rfl, ?_, rfl⟩, (opcode_operand_of_decodeBytes rfl).1⟩
  exact (Mode.operandBytes_le_three m8 x8 _).trans (Nat.le_add_left 3 rest.length)

/-- Settles O4: the length is one more than the bytes of the mode, mode by mode. -/
theorem lengthIsTheModes : Obligations.LengthIsTheModes := by
  intro m8 x8 i
  rw [length_encode]
  generalize i.operand.mode = m
  cases m <;> simp [Mode.operandBytes, accessSize]

/-- Settles O5: an opcode outside the lists is of another mode, whose operand reads alike under all widths. -/
theorem widthFlagsSizeOnlyImmediates : Obligations.WidthFlagsSizeOnlyImmediates := by
  refine ⟨mode_eq_immm_iff, mode_eq_immx_iff, fun m8 x8 m8' x8' b0 b1 b2 b3 hm hx => ?_⟩
  obtain ⟨i, hi⟩ : ∃ i, decodeBytes m8 x8 b0 b1 b2 b3 = i := ⟨_, rfl⟩
  obtain ⟨rfl, hread⟩ := opcode_operand_of_decodeBytes hi
  rw [← mode_eq_immm_iff] at hm
  rw [← mode_eq_immx_iff] at hx
  rw [hi]
  exact (decodeBytes_eq_of_read ((read_eq_of_widths hm hx b1 b2 b3).symm.trans hread.symm)).symm

/-- Settles O6: each list is the opcode map's entries of its mnemonic. -/
theorem opcodesOfTheMnemonics : Obligations.OpcodesOfTheMnemonics := by
  unfold Obligations.OpcodesOfTheMnemonics
  repeat' apply And.intro
  all_goals exact encodes_of_formsWhere rfl

/-- Settles O7: each word is evaluated. -/
theorem sampleWordsDecode : Obligations.SampleWordsDecode := by
  unfold Obligations.SampleWordsDecode
  exact ⟨rfl, rfl, rfl, rfl, rfl, rfl, rfl, rfl, rfl, rfl, rfl, rfl⟩

end Sys2Proof
end

section
/-! Where a step fetches (spec/40_step_and_addressing.md R120, spec/30_encoding.md R90 to R92): the addresses of the opcode and
of the bytes after it, as numbers. -/

namespace Sys2Proof.Machine

theorem addrOf_eq_ofNat (b : Byte) (o : Word) : addrOf b o = BitVec.ofNat 24 (2 ^ 16 * b.toNat + o.toNat) := by
  rw [← addrOf_toNat, BitVec.ofNat_toNat, BitVec.setWidth_eq]

namespace State

variable (s : State)

theorem opcodeAddr_eq_ofNat : s.opcodeAddr = BitVec.ofNat 24 (2 ^ 16 * s.pbr.toNat + s.pc.toNat) := addrOf_eq_ofNat _ _

/-- PC + 1 wraps in the bank (R25). -/
theorem operandAddr_eq_ofNat :
    s.operandAddr = BitVec.ofNat 24 (2 ^ 16 * s.pbr.toNat + (s.pc.toNat + 1) % 2 ^ 16) := by
  rw [operandAddr, addrOf_eq_ofNat, BitVec.toNat_add]
  rfl

/-- The bytes after the opcode stand at the 24-bit successors of the first of them (R92). -/
theorem fetchBytes_getElem?_succ {k : Nat} (hk : k < 3) :
    s.fetchBytes[k + 1]? = some (s.readByte (s.operandAddr + BitVec.ofNat 24 k)) := by
  match k with
  | 0 => rw [BitVec.add_zero]; rfl
  | 1 | 2 => rfl

end State

/-- Settles O8: the step runs the instruction fetched, which is the one the bytes decode to. -/
theorem stepRunsTheDecodedInstruction : Obligations.StepRunsTheDecodedInstruction := by
  refine ⟨fun s i rest hcfg hrun hdecode => ⟨?_, State.hostBoundary_nil⟩, fun s => ⟨rfl, ?_, fun k hk => ?_⟩⟩
  · rw [step_of_running hcfg hrun, State.fetchInstr_of_decode hdecode]
  · rw [← s.opcodeAddr_eq_ofNat]
    rfl
  · rw [BitVec.ofNat_add, ← s.operandAddr_eq_ofNat, s.fetchBytes_getElem?_succ hk]

end Sys2Proof.Machine
end

section
/-! Effective addresses (spec/40_step_and_addressing.md R122 to R147): `ea` of each mode from the state at the opcode, and the
words it is computed from as numbers, with their wraps. -/

namespace Sys2Proof.Machine

/-! ### Words as numbers -/

theorem toNat_add_zext (v : Word) (d : Byte) : (v + zext d).toNat = (v.toNat + d.toNat) % 2 ^ 16 := by
  rw [BitVec.toNat_add, zext_toNat]

theorem toNat_add_lo (d : Byte) (v : Word) : (d + lo v).toNat = (d.toNat + v.toNat) % 2 ^ 8 := by
  rw [BitVec.toNat_add, lo_toNat, Nat.add_mod_mod]

/-- A sum of words used as an offset wraps in the bank. -/
theorem offsetOf_addrOf_add_toNat (b : Byte) (v w : Word) :
    (offsetOf (addrOf b (v + w))).toNat = (v.toNat + w.toNat) % 2 ^ 16 := by
  rw [offsetOf_addrOf, BitVec.toNat_add]

/-- A word added to an address carries into its bank. -/
theorem toNat_add_setWidth (a : Addr) (v : Word) : (a + v.setWidth 24).toNat = (a.toNat + v.toNat) % 2 ^ 24 := by
  rw [BitVec.toNat_add, BitVec.toNat_setWidth, Nat.add_mod_mod]

theorem sext_toNat (d : Byte) : ((sext d).toNat : Int) = d.toInt % 2 ^ 16 :=
  (congrArg Int.ofNat (BitVec.toNat_ofInt d.toInt)).trans (Int.toNat_of_nonneg (Int.emod_nonneg d.toInt (by decide)))

/-- A displacement added to a word is a signed number added, modulo the bank. -/
theorem toNat_add_sext (v : Word) (d : Byte) : ((v + sext d).toNat : Int) = (v.toNat + d.toInt) % 2 ^ 16 := by
  have hd := sext_toNat d
  rw [BitVec.toNat_add]
  omega

namespace State

variable (s : State) (b d : Byte) (w : Word) (l a : Addr)

theorem read16_toNat : (s.read16 a).toNat = (s.readByte a).toNat + 2 ^ 8 * (s.readByte (a + 1)).toNat := by
  rw [read16, wordOf_toNat, Nat.add_comm]

theorem read24_toNat : (s.read24 a).toNat =
    (s.readByte a).toNat + 2 ^ 8 * (s.readByte (a + 1)).toNat + 2 ^ 16 * (s.readByte (a + 2)).toNat := by
  rw [read24, addrOf_toNat, read16_toNat, Nat.add_comm]

/-- A direct-page address wraps in bank 0 (R136). -/
theorem directAddr_toNat : (s.directAddr d).toNat = (s.dp.toNat + d.toNat) % 2 ^ 16 := by
  rw [directAddr, addrOf_zero_toNat, toNat_add_zext]

/-- A stack-relative address wraps in its page in emulation mode, in bank 0 in native mode (R146). -/
theorem stackOffset_toNat : (s.stackOffset d).toNat =
    if s.e then 2 ^ 8 * (hi s.sp).toNat + ((lo s.sp).toNat + d.toNat) % 2 ^ 8 else (s.sp.toNat + d.toNat) % 2 ^ 16 := by
  unfold stackOffset
  split
  · rw [wordOf_toNat, BitVec.toNat_add]
  · exact toNat_add_zext _ _

/-! ### `ea`, mode by mode -/

@[simp] theorem ea_abs : s.ea (.abs w) = addrOf s.dbr w := rfl
@[simp] theorem ea_absx : s.ea (.absx w) = addrOf s.dbr (w + s.xv) := rfl
@[simp] theorem ea_absy : s.ea (.absy w) = addrOf s.dbr (w + s.yv) := rfl
@[simp] theorem ea_absi : s.ea (.absi w) = addrOf 0x00 (s.read16 (addrOf s.pbr w)) := rfl
@[simp] theorem ea_abxi : s.ea (.abxi w) = addrOf s.pbr (s.read16 (addrOf s.pbr (w + s.xv))) := rfl
@[simp] theorem ea_alng : s.ea (.alng l) = l := rfl
@[simp] theorem ea_alnx : s.ea (.alnx l) = l + s.xv.setWidth 24 := rfl
@[simp] theorem ea_abil : s.ea (.abil w) = s.read24 (addrOf 0x00 w) := rfl
@[simp] theorem ea_dpag : s.ea (.dpag d) = s.directAddr d := rfl
@[simp] theorem ea_dpgx : s.ea (.dpgx d) = s.directAddr (d + lo s.xv) := rfl
@[simp] theorem ea_dpgy : s.ea (.dpgy d) = s.directAddr (d + lo s.yv) := rfl
@[simp] theorem ea_dpgi : s.ea (.dpgi d) = addrOf s.dbr (s.read16 (s.directAddr d)) := rfl
@[simp] theorem ea_dpix : s.ea (.dpix d) = addrOf s.dbr (s.read16 (addrOf 0x00 (s.dp + zext d + s.xv))) := rfl
@[simp] theorem ea_dpiy : s.ea (.dpiy d) = addrOf s.dbr (s.read16 (s.directAddr d) + s.yv) := rfl
@[simp] theorem ea_dpil : s.ea (.dpil d) = s.read24 (s.directAddr d) := rfl
@[simp] theorem ea_dily : s.ea (.dily d) = s.read24 (s.directAddr d) + s.yv.setWidth 24 := rfl
@[simp] theorem ea_rela : s.ea (.rela d) = addrOf s.pbr (s.pc + 1 + 1 + sext d) := rfl
@[simp] theorem ea_lrel : s.ea (.lrel w) = addrOf s.pbr (s.pc + 1 + 2 + w) := rfl
@[simp] theorem ea_srel : s.ea (.srel d) = addrOf 0x00 (s.stackOffset d) := rfl
@[simp] theorem ea_sriy : s.ea (.sriy d) = addrOf s.dbr (s.read16 (s.ea (.srel d)) + s.yv) := rfl

/-- An immediate stands at the byte after the opcode (R124 to R127). -/
theorem ea_of_immediate {o : Operand} (ho : o ∈ [.immb b, .immw w, .immm w, .immx w]) : s.ea o = s.operandAddr := by
  simp only [List.mem_cons, List.not_mem_nil, or_false] at ho
  rcases ho with rfl | rfl | rfl | rfl <;> rfl

/-- A relative target wraps in the program bank (R144). -/
theorem offsetOf_ea_rela : ((offsetOf (s.ea (.rela d))).toNat : Int) = (s.pc.toNat + 2 + d.toInt) % 2 ^ 16 := by
  rw [ea_rela, offsetOf_addrOf, toNat_add_sext, BitVec.toNat_add, BitVec.toNat_add]
  simp only [BitVec.toNat_ofNat, BitVec.ofNat_eq_ofNat]
  omega

/-- A long relative target wraps in the program bank (R145). -/
theorem offsetOf_ea_lrel : (offsetOf (s.ea (.lrel w))).toNat = (s.pc.toNat + 3 + w.toNat) % 2 ^ 16 := by
  rw [ea_lrel, offsetOf_addrOf]
  bv_omega

end State

/-- Settles O25: each `ea` is its equation, read as a number where it wraps. -/
theorem effectiveAddressesWithoutPointer : Obligations.EffectiveAddressesWithoutPointer := by
  intro s b d w l
  refine ⟨fun o ho => ?_, ?_, ?_, ?_, rfl, ?_, ?_, ?_, ?_, ?_, ?_, ?_⟩
  · rw [s.ea_of_immediate b w ho]
    exact ⟨bankOf_addrOf _ _, offsetOf_addrOf_add_toNat s.pbr s.pc 1⟩
  · exact ⟨bankOf_addrOf _ _, offsetOf_addrOf _ _⟩
  · exact ⟨bankOf_addrOf _ _, offsetOf_addrOf_add_toNat s.dbr w s.xv⟩
  · exact ⟨bankOf_addrOf _ _, offsetOf_addrOf_add_toNat s.dbr w s.yv⟩
  · exact toNat_add_setWidth l s.xv
  · exact s.directAddr_toNat d
  · rw [s.ea_dpgx, s.directAddr_toNat, toNat_add_lo]
  · rw [s.ea_dpgy, s.directAddr_toNat, toNat_add_lo]
  · exact ⟨bankOf_addrOf _ _, s.offsetOf_ea_rela d⟩
  · exact ⟨bankOf_addrOf _ _, s.offsetOf_ea_lrel w⟩
  · rw [s.ea_srel, addrOf_zero_toNat, s.stackOffset_toNat]

/-- Settles O26: each `ea` is its equation, with the pointer read as a number. -/
theorem effectiveAddressesThroughPointer : Obligations.EffectiveAddressesThroughPointer := by
  intro s d w word long direct
  have hword : ∀ a, (s.read16 a).toNat = word a := s.read16_toNat
  have hlong : ∀ a, (s.read24 a).toNat = long a := s.read24_toNat
  refine ⟨?_, ⟨bankOf_addrOf _ _, ?_⟩, hlong _, ⟨bankOf_addrOf _ _, ?_⟩, ⟨bankOf_addrOf _ _, ?_⟩, ⟨bankOf_addrOf _ _, ?_⟩,
    hlong _, ?_, ⟨bankOf_addrOf _ _, ?_⟩⟩
  · rw [s.ea_absi, addrOf_zero_toNat, hword]
  · rw [s.ea_abxi, offsetOf_addrOf, hword]
  · rw [s.ea_dpgi, offsetOf_addrOf, hword]
    rfl
  · rw [s.ea_dpix, offsetOf_addrOf, hword]
  · rw [s.ea_dpiy, offsetOf_addrOf_add_toNat, hword]
    rfl
  · rw [s.ea_dily, toNat_add_setWidth, hlong]
    rfl
  · rw [s.ea_sriy, offsetOf_addrOf_add_toNat, hword]

end Sys2Proof.Machine
end

section
/-! Load and store (spec/41_load_store.md R160 to R166): what an operand is, what a register written with its N and Z leaves
alone, and where a store goes. -/

namespace Sys2Proof.Machine

/-! ### The operand -/

namespace State

variable (s : State)

theorem readSized_toNat (n : Bool) (a : Addr) : (s.readSized n a).toNat =
    (s.readByte a).toNat + if n then 0 else 2 ^ 8 * (s.readByte (a + 1)).toNat := by
  cases n with
  | true => exact zext_toNat (s.readByte a)
  | false => exact s.read16_toNat a

/-- In a mode that carries no immediate the operand is memory at `ea`. -/
theorem operandValue_of_memory {o : Operand} (ho : o.mode ∉ [.impl, .acc, .immb, .immw, .immm, .immx]) (n : Bool) (ea : Addr) :
    s.operandValue n o ea = s.readSized n ea := by
  cases o with
  | immb | immw | immm | immx => exact absurd (by simp [Operand.mode]) ho
  | _ => rfl

variable {i : Instr}

/-- An immediate sized by a flag, or a word, is read at the width (R126, R127). -/
theorem valueOf_of_sizedImmediate {v : Word} (h : i.operand = .immm v ∨ i.operand = .immx v ∨ i.operand = .immw v)
    (n : Bool) : s.valueOf n i = clip n v := by
  rcases h with h | h | h <;> rw [valueOf, h, operandValue]

theorem valueOf_of_immb {b : Byte} (h : i.operand = .immb b) (n : Bool) : s.valueOf n i = zext b := by
  rw [valueOf, h, operandValue]

/-- An operand in memory is the byte at `ea` and, at 16 bits, above it the byte at its 24-bit successor (R64). -/
theorem valueOf_toNat_of_memory (hm : i.operand.mode ∉ [.impl, .acc, .immb, .immw, .immm, .immx]) (n : Bool) :
    (s.valueOf n i).toNat =
      (s.readByte (s.eaOf i)).toNat + if n then 0 else 2 ^ 8 * (s.readByte (s.eaOf i + 1)).toNat := by
  rw [valueOf, s.operandValue_of_memory hm, s.readSized_toNat]

/-- An operand fits the width it is read at, the byte of mode IMMB too. -/
theorem clip_valueOf (n : Bool) (i : Instr) : clip n (s.valueOf n i) = s.valueOf n i := by
  by_cases hm : i.operand.mode = .immb
  · obtain ⟨b, hb⟩ : ∃ b, i.operand = .immb b := by
      generalize i.operand = o at hm
      cases o <;> simp [Operand.mode] at hm ⊢
    rw [s.valueOf_of_immb hb]
    cases n <;> simp
  · exact s.clip_operandValue n _ _ hm

end State

/-! ### Loads -/

namespace State

variable (s : State) (n : Bool) (v : Word)

theorem writeA_keepsParts : KeepsParts [.a] s (s.writeA n v) := .of_restore rfl
theorem writeX_keepsParts : KeepsParts [.x] s (s.writeX n v) := .of_restore rfl
theorem writeY_keepsParts : KeepsParts [.y] s (s.writeY n v) := .of_restore rfl

end State

/-- With the instruction consumed and at most A, X and Y written, `SetNZ` leaves PC, CYC, flags and memory as a statement asks. -/
theorem setNZ_frame {i : Instr} {s u : State} (hu : KeepsParts [.a, .x, .y] (s.advance i.op i.operand) u) (n : Bool) (v : Word) :
    Advanced i s (u.setNZ n v) ∧ SetsNZ n v (u.setNZ n v) ∧ KeepsFlags [.n, .z] s (u.setNZ n v) ∧
    KeepsMemory s (u.setNZ n v) := by
  have hpc : u.pc = s.nextPc i := Eq.trans (hu .pc (by decide)) (s.advance_nextPc i)
  have hcyc : u.cyc = s.cyc + s.costOf i := hu .cyc (by decide)
  have hp : u.p = s.p := hu .p (by decide)
  have hmem : u.mem = s.mem := hu .mem (by decide)
  have hcfg : u.cfg = s.cfg := hu .cfg (by decide)
  exact ⟨⟨hpc, hcyc⟩, u.setNZ_setsNZ n v, (keepsFlags_of_p hp).trans (u.setNZ_keepsFlags n v),
    State.keepsMemory_of_mem hcfg hmem⟩

theorem exec_lda {i : Instr} (hop : i.op = .lda) (s : State) :
    exec i s = .next (((s.advance i.op i.operand).writeA s.m8 (s.valueOf s.m8 i)).setNZ s.m8 (s.valueOf s.m8 i)) := by
  rw [exec_eq_next, hop, handlerOf, lda, State.advance_m8, State.advance_operandValue]
  rfl

theorem exec_ldx {i : Instr} (hop : i.op = .ldx) (s : State) :
    exec i s = .next (((s.advance i.op i.operand).writeX s.x8 (s.valueOf s.x8 i)).setNZ s.x8 (s.valueOf s.x8 i)) := by
  rw [exec_eq_next, hop, handlerOf, ldx, State.advance_x8, State.advance_operandValue]
  rfl

theorem exec_ldy {i : Instr} (hop : i.op = .ldy) (s : State) :
    exec i s = .next (((s.advance i.op i.operand).writeY s.x8 (s.valueOf s.x8 i)).setNZ s.x8 (s.valueOf s.x8 i)) := by
  rw [exec_eq_next, hop, handlerOf, ldy, State.advance_x8, State.advance_operandValue]
  rfl

/-- Settles O27: a load is its register written and `SetNZ`, both of the operand; an index register holds the operand itself,
as the operand fits its width. -/
theorem loadsCopyTheOperand : Obligations.LoadsCopyTheOperand := by
  refine ⟨fun i s n => ⟨fun v hv => s.valueOf_of_sizedImmediate hv n, fun b hb => s.valueOf_of_immb hb n,
    fun hm => s.valueOf_toNat_of_memory hm n⟩, fun i s hop => ?_, fun i s hop => ?_, fun i s hop => ?_⟩
  · obtain ⟨hadv, hnz, hflags, hmem⟩ := setNZ_frame (i := i)
      ((State.writeA_keepsParts _ s.m8 (s.valueOf s.m8 i)).mono (by decide)) s.m8 (s.valueOf s.m8 i)
    exact ⟨_, exec_lda hop s, hadv, rfl, hnz, hflags, hmem, rfl⟩
  · obtain ⟨hadv, hnz, hflags, hmem⟩ := setNZ_frame (i := i)
      ((State.writeX_keepsParts _ s.x8 (s.valueOf s.x8 i)).mono (by decide)) s.x8 (s.valueOf s.x8 i)
    exact ⟨_, exec_ldx hop s, hadv, s.clip_valueOf s.x8 i, hnz, hflags, hmem, rfl⟩
  · obtain ⟨hadv, hnz, hflags, hmem⟩ := setNZ_frame (i := i)
      ((State.writeY_keepsParts _ s.x8 (s.valueOf s.x8 i)).mono (by decide)) s.x8 (s.valueOf s.x8 i)
    exact ⟨_, exec_ldy hop s, hadv, s.clip_valueOf s.x8 i, hnz, hflags, hmem, rfl⟩

/-! ### Stores -/

/-- The width of a store: the index flag's for X and Y, else the accumulator's (R163 to R166). -/
def storeNarrow (op : Op) (s : State) : Bool := if op = .stx ∨ op = .sty then s.x8 else s.m8

/-- What a store writes: its register, or zero (R163 to R166). -/
def storeValue (op : Op) (s : State) : Word :=
  match op with
  | .sta => s.a
  | .stx => s.x
  | .sty => s.y
  | _ => 0x0000

theorem handlerOf_store {op : Op} (hop : op ∈ [.sta, .stx, .sty, .stz]) (o : Operand) (ea : Addr) (s : State) :
    handlerOf op o ea s = s.writeSized (storeNarrow op s) ea (storeValue op s) := by
  simp only [List.mem_cons, List.not_mem_nil, or_false] at hop
  rcases hop with rfl | rfl | rfl | rfl <;> rfl

theorem storeValue_advance (op op' : Op) (o : Operand) (s : State) :
    storeValue op (s.advance op' o) = storeValue op s := by
  cases op <;> rfl

/-- A sized write with the instruction consumed stores its value and writes nothing else but PC and CYC. -/
theorem advance_writeSized_frame (i : Instr) (n : Bool) (a : Addr) (v : Word) (s : State) :
    let t := (s.advance i.op i.operand).writeSized n a v
    Advanced i s t ∧ Stored n a v s t ∧ { t with mem := s.mem, pc := s.pc, cyc := s.cyc } = s :=
  ⟨⟨s.advance_nextPc i, rfl⟩, State.stored_of_mem (State.writeSized_stored _ n a v) rfl rfl rfl rfl, rfl⟩

theorem exec_store {i : Instr} (hop : i.op ∈ [.sta, .stx, .sty, .stz]) (s : State) :
    exec i s =
      .next ((s.advance i.op i.operand).writeSized (storeNarrow i.op s) (s.eaOf i) (storeValue i.op s)) := by
  rw [exec_eq_next, handlerOf_store hop, storeValue_advance]
  rfl

/-- Settles O28: every store is one sized write, of the value and at the width of its mnemonic. -/
theorem storesWriteTheRegister : Obligations.StoresWriteTheRegister := by
  intro i s hop
  obtain ⟨hadv, hstored, hframe⟩ :=
    advance_writeSized_frame i (storeNarrow i.op s) (s.eaOf i) (storeValue i.op s) s
  refine ⟨_, exec_store hop s, hadv, ?_, ?_, ?_, ?_, hframe⟩
  all_goals
    intro h
    rw [h] at hstored ⊢
    exact hstored

end Sys2Proof.Machine
end

section
/-! What an instruction leaves, read off its footprint: PC and CYC, memory, and the fields a statement puts back. -/

namespace Sys2Proof.Machine

/-- A frame in the form a statement gives it: with what may be written put back, nothing has changed. -/
theorem KeepsParts.restore_eq {ps : List Part} {s t : State} (k : KeepsParts ps s t) : s.restore ps t = s := by
  cases s with
  | mk a x y sp dp pc pbr dbr p e cyc halted mem intsig host cfg =>
    simp only [State.restore, State.mk.injEq, ite_eq_left_iff]
    exact ⟨k .a, k .x, k .y, k .sp, k .dp, k .pc, k .pbr, k .dbr, k .p, k .e, k .cyc, k .halted, k .mem, k .intsig, k .host,
      k .cfg⟩

/-- A handler that writes neither PC nor CYC leaves them as the consumed instruction did. -/
theorem advanced_of_exec {i : Instr} {s t : State} (h : exec i s = .next t) (hpc : .pc ∉ footprint i.op)
    (hcyc : .cyc ∉ footprint i.op) : Advanced i s t := by
  have k := handlerOf_keepsParts i.op i.operand (s.eaOf i) (s.advance i.op i.operand)
  rw [eq_of_exec h]
  exact ⟨Eq.trans (k .pc hpc) (s.advance_nextPc i), Eq.trans (k .cyc hcyc) (s.advance_costOf i)⟩

theorem keepsMemory_of_exec {i : Instr} {s t : State} (h : exec i s = .next t) (hmem : .mem ∉ stepFootprint i.op) :
    KeepsMemory s t := State.keepsMemory_of_mem (exec_cfg h) (exec_keepsParts h .mem hmem)

/-- The frame of an instruction whose handler writes neither PC, CYC nor memory. -/
theorem exec_frame {i : Instr} {s t : State} (h : exec i s = .next t) {ps : List Part} (hf : footprint i.op = ps)
    (hps : ∀ r ∈ [Part.pc, .cyc, .mem], r ∉ ps) :
    Advanced i s t ∧ KeepsMemory s t ∧ s.restore (.pc :: .cyc :: ps) t = s := by
  subst hf
  exact ⟨advanced_of_exec h (hps .pc (by decide)) (hps .cyc (by decide)),
    keepsMemory_of_exec h (by simpa [stepFootprint] using hps .mem (by decide)), (exec_keepsParts h).restore_eq⟩

end Sys2Proof.Machine
end

section
/-! Addition and subtraction (spec/42_alu.md R170 to R172, R182): the adder as arithmetic on numbers. -/

namespace Sys2Proof.Machine

/-! ### The adder -/

/-- A masked digit of a number is the digit in place. -/
theorem and_digitMask (t k : Nat) : t &&& 15 * 2 ^ k = t / 2 ^ k % 16 * 2 ^ k := by
  apply Nat.eq_of_testBit_eq
  intro j
  rw [Nat.testBit_and, Nat.testBit_mul_two_pow, Nat.testBit_mul_two_pow, show 16 = 2 ^ 4 from rfl, Nat.testBit_mod_two_pow,
    Nat.testBit_div_two_pow, show 15 = 2 ^ 4 - 1 from rfl, Nat.testBit_two_pow_sub_one]
  by_cases hj : k ≤ j
  · simp [hj, Bool.and_comm]
  · simp [hj]

/-- A digit is corrected where it exceeds 9 (R170). -/
theorem adjustNibble_digit (k add t : Nat) :
    adjustNibble (15 * 2 ^ k) (9 * 2 ^ k) add t = if 9 < t / 2 ^ k % 16 then t + add else t := by
  rw [adjustNibble, and_digitMask]
  simp only [Nat.mul_lt_mul_right (Nat.two_pow_pos k)]

/-- The sum the adder answers for: corrected in decimal mode (R170). -/
def adderSum (narrow decimal : Bool) (t0 : Nat) : Nat := if decimal then decimalCorrect narrow t0 else t0

theorem adderSum_binary (n : Bool) (t0 : Nat) : adderSum n false t0 = t0 := rfl

/-- The correction of R170, digit by digit from the lowest. -/
theorem adderSum_decimal (n : Bool) (t0 : Nat) :
    adderSum n true t0 =
      (let t1 := if 9 < t0 % 16 then t0 + 0x0006 else t0
       let t2 := if 9 < t1 / 2 ^ 4 % 16 then t1 + 0x0060 else t1
       let t3 := if n = false ∧ 9 < t2 / 2 ^ 8 % 16 then t2 + 0x0600 else t2
       if n = false ∧ 9 < t3 / 2 ^ 12 % 16 then t3 + 0x6000 else t3) := by
  have h0 := adjustNibble_digit 0 0x0006
  have h4 := adjustNibble_digit 4 0x0060
  have h8 := adjustNibble_digit 8 0x0600
  have h12 := adjustNibble_digit 12 0x6000
  norm_num only at h0 h4 h8 h12
  cases n <;> simp [adderSum, decimalCorrect, h0, h4, h8, h12]

/-- The top bit of a word at a width, as a digit of its value. -/
theorem getLsbD_top (n : Bool) (v : Word) :
    v.getLsbD ((if n then 8 else 16) - 1) = (clip n v).toNat.testBit ((if n then 8 else 16) - 1) := by
  rw [clip_toNat, BitVec.getLsbD, Nat.testBit_mod_two_pow]
  cases n <;> simp

theorem testBit_iff (x k : Nat) : x.testBit k = true ↔ x / 2 ^ k % 2 = 1 := by
  rw [Nat.testBit_eq_decide_div_mod_eq, decide_eq_true_iff]

theorem testBit_eq_testBit_iff (x y k : Nat) : x.testBit k = y.testBit k ↔ x / 2 ^ k % 2 = y / 2 ^ k % 2 := by
  rw [Bool.eq_iff_iff, testBit_iff, testBit_iff]
  omega

/-- The accumulator, C and V of `t` are those of the adder on `a` and `data` where it answers for `sum`; C and V are taken from
`sum` too (R170). -/
def AdderLeaves (n : Bool) (a data sum : Nat) (t : State) : Prop :=
  let w := if n then 8 else 16
  (clip n t.a).toNat = sum % 2 ^ w ∧ (t.flag .c = true ↔ sum / 2 ^ w % 2 = 1) ∧
  (t.flag .v = true ↔ a / 2 ^ (w - 1) % 2 = data / 2 ^ (w - 1) % 2 ∧ a / 2 ^ (w - 1) % 2 ≠ sum / 2 ^ (w - 1) % 2)

theorem addCore_value_toNat (n d c : Bool) (v u : Word) :
    (clip n (addCore n d v u c).value).toNat =
      adderSum n d ((clip n v).toNat + (clip n u).toNat + c.toNat) % 2 ^ (if n then 8 else 16) := by
  rw [addCore, clip_clip, clip_toNat, BitVec.toNat_ofNat, Nat.mod_mod_of_dvd _ (by cases n <;> decide)]
  rfl

theorem addCore_carry_iff (n d c : Bool) (v u : Word) :
    (addCore n d v u c).carry = true ↔
      adderSum n d ((clip n v).toNat + (clip n u).toNat + c.toNat) / 2 ^ (if n then 8 else 16) % 2 = 1 := testBit_iff _ _

theorem addCore_overflow_iff (n d c : Bool) (v u : Word) :
    let w := if n then 8 else 16
    let a := (clip n v).toNat
    let data := (clip n u).toNat
    let sum := adderSum n d (a + data + c.toNat)
    (addCore n d v u c).overflow = true ↔
      a / 2 ^ (w - 1) % 2 = data / 2 ^ (w - 1) % 2 ∧ a / 2 ^ (w - 1) % 2 ≠ sum / 2 ^ (w - 1) % 2 := by
  intro w a data sum
  change ((v.getLsbD (w - 1) == u.getLsbD (w - 1)) && (v.getLsbD (w - 1) != sum.testBit (w - 1))) = true ↔ _
  rw [getLsbD_top, getLsbD_top, Bool.and_eq_true, beq_iff_eq, bne_iff_ne, ne_eq, testBit_eq_testBit_iff,
    testBit_eq_testBit_iff]

theorem addToA_adderLeaves (u : Word) (s : State) :
    AdderLeaves s.m8 (clip s.m8 s.a).toNat (clip s.m8 u).toNat
      (adderSum s.m8 (s.flag .d) ((clip s.m8 s.a).toNat + (clip s.m8 u).toNat + (s.flag .c).toNat)) (addToA u s) := by
  refine ⟨?_, ?_, ?_⟩
  · rw [addToA, State.setAddFlags_a, State.clip_writeA]
    exact addCore_value_toNat ..
  · rw [addToA, State.flag_setAddFlags]
    exact addCore_carry_iff ..
  · rw [addToA, State.flag_setAddFlags]
    exact addCore_overflow_iff ..

/-! ### ADC and SBC -/

/-- What ADC and SBC add to A: the operand, or its complement (R171, R172). -/
def addend (op : Op) (v : Word) : Word := if op = .adc then v else ~~~v

/-- At the width the complement is the distance to the largest value. -/
theorem clip_addend_toNat (op : Op) {n : Bool} {v : Word} (hv : clip n v = v) :
    (clip n (addend op v)).toNat = if op = .adc then v.toNat else 2 ^ (if n then 8 else 16) - 1 - v.toNat := by
  by_cases hop : op = .adc
  · rw [addend, if_pos hop, if_pos hop, hv]
  · rw [addend, if_neg hop, if_neg hop, clip_toNat, BitVec.toNat_not]
    have hlt := hv ▸ clip_toNat n v
    cases n <;> simp only [Bool.false_eq_true, if_false, if_true] at hlt ⊢ <;> omega

theorem exec_adcSbc {i : Instr} (hop : i.op = .adc ∨ i.op = .sbc) (s : State) :
    exec i s = .next (addToA (addend i.op (s.valueOf s.m8 i)) (s.advance i.op i.operand)) := by
  have hhandler : handlerOf i.op = fun o ea s => addToA (addend i.op (s.operandValue s.m8 o ea)) s := by
    rcases hop with h | h <;> rw [h] <;> rfl
  simp only [exec_eq_next, hhandler, State.advance_operandValue]
  rfl

/-- The accumulator, C and V after ADC or SBC, as numbers. -/
theorem exec_adcSbc_adderLeaves {i : Instr} {s t : State} (hop : i.op = .adc ∨ i.op = .sbc) (h : exec i s = .next t) :
    let w := if s.m8 then 8 else 16
    let v := (s.valueOf s.m8 i).toNat
    let a := (clip s.m8 s.a).toNat
    let data := if i.op = .adc then v else 2 ^ w - 1 - v
    AdderLeaves s.m8 a data (adderSum s.m8 (s.flag .d) (a + data + (s.flag .c).toNat)) t := by
  have hadd := addToA_adderLeaves (addend i.op (s.valueOf s.m8 i)) (s.advance i.op i.operand)
  rw [State.advance_m8, clip_addend_toNat i.op (s.clip_valueOf s.m8 i)] at hadd
  rw [exec_adcSbc hop] at h
  injection h with h
  exact h ▸ hadd

/-- N and Z after ADC or SBC are those of the result. -/
theorem addToA_setsNZ (data : Word) (s : State) : SetsNZ s.m8 (addToA data s).a (addToA data s) :=
  State.setsNZ_of_clip_eq (State.clip_writeA s s.m8 _).symm (State.setNZ_setsNZ _ s.m8 _)

/-- Settles O29: the numbers are the adder's on the operand or its complement, its sum corrected digit by digit. -/
theorem adcSbcFollowTheRecipe : Obligations.AdcSbcFollowTheRecipe := by
  intro i s hop
  have h := exec_adcSbc hop s
  have hf : footprint i.op = [.a, .p] ∧ flagsWritten i.op = [.c, .v, .n, .z] := by
    rcases hop with e | e <;> rw [e] <;> exact ⟨rfl, rfl⟩
  obtain ⟨hadv, hmem, hframe⟩ := exec_frame h hf.1 (by decide)
  refine ⟨_, h, hadv, ?_, fun hm => hi_writeA_of_narrow hm (s.advance i.op i.operand) _,
    addToA_setsNZ _ (s.advance i.op i.operand), hf.2 ▸ exec_keepsFlags h, hmem, hframe⟩
  have hadd := exec_adcSbc_adderLeaves hop h
  cases hd : s.flag .d with
  | false =>
    rw [hd] at hadd
    simpa only [AdderLeaves, adderSum_binary, Bool.false_eq_true, false_and, if_false] using hadd
  | true =>
    rw [hd] at hadd
    simpa only [AdderLeaves, adderSum_decimal, true_and] using hadd

/-! ### Binary mode (R182) -/

/-- The signed reading of a `w`-bit number. -/
def signedOf (w x : Nat) : Int := if x < 2 ^ (w - 1) then x else x - 2 ^ w

theorem signedValue_eq_signedOf (n : Bool) (v : Word) :
    signedValue n v = signedOf (if n then 8 else 16) (clip n v).toNat := by
  have hlt := clip_toNat n v
  cases n <;>
    simp only [signedValue, signedOf, BitVec.toInt_eq_toNat_cond, clip_true, clip_false, zext_toNat, Bool.false_eq_true,
      if_false, if_true] at hlt ⊢ <;>
    omega

/-- The signed reading of the complement. -/
theorem signedOf_complement (n : Bool) {x : Nat} :
    let w := if n then 8 else 16
    x < 2 ^ w → signedOf w (2 ^ w - 1 - x) = -1 - signedOf w x := by
  cases n <;> simp only [signedOf, Bool.false_eq_true, if_false, if_true] <;> omega

/-- Where the adder answers for the binary sum, C is the carry out of `w` bits and V the signed overflow. -/
theorem AdderLeaves.binary {n : Bool} {a d c : Nat} {t : State} (h : AdderLeaves n a d (a + d + c) t) (hc : c ≤ 1) :
    let w := if n then 8 else 16
    a < 2 ^ w → d < 2 ^ w →
      (clip n t.a).toNat = (a + d + c) % 2 ^ w ∧ (t.flag .c = true ↔ 2 ^ w ≤ a + d + c) ∧
      (t.flag .v = true ↔
        signedOf w a + signedOf w d + c < -2 ^ (w - 1) ∨ 2 ^ (w - 1) ≤ signedOf w a + signedOf w d + c) := by
  intro w ha hd
  obtain ⟨hvalue, hcarry, hoverflow⟩ := h
  refine ⟨hvalue, hcarry.trans ?_, hoverflow.trans ?_⟩ <;>
    cases n <;> simp only [w, signedOf, Bool.false_eq_true, if_false, if_true] at ha hd ⊢ <;> omega

/-- Where the second number is a complement, that sum is a difference and C the absence of a borrow. -/
theorem AdderLeaves.complement {n : Bool} {a v c : Nat} {t : State} :
    let w := if n then 8 else 16
    AdderLeaves n a (2 ^ w - 1 - v) (a + (2 ^ w - 1 - v) + c) t → c ≤ 1 → a < 2 ^ w → v < 2 ^ w →
      ((clip n t.a).toNat : Int) = ((a : Int) - v - (1 - c)) % 2 ^ w ∧ (t.flag .c = true ↔ v + 1 ≤ a + c) ∧
      (t.flag .v = true ↔
        signedOf w a - signedOf w v - (1 - c) < -2 ^ (w - 1) ∨ 2 ^ (w - 1) ≤ signedOf w a - signedOf w v - (1 - c)) := by
  intro w h hc ha hv
  obtain ⟨hvalue, hcarry, hoverflow⟩ := h.binary hc ha (show 2 ^ w - 1 - v < 2 ^ w by omega)
  have hflip : signedOf w (2 ^ w - 1 - v) = -1 - signedOf w v := signedOf_complement n hv
  have hsigned : signedOf w a - signedOf w v - (1 - c) = signedOf w a + signedOf w (2 ^ w - 1 - v) + c := by
    rw [hflip]
    ring
  have hsum : ((a + (2 ^ w - 1 - v) + c : Nat) : Int) = (a - v - (1 - c) : Int) + (2 ^ w : Nat) := by omega
  have hborrow : 2 ^ w ≤ a + (2 ^ w - 1 - v) + c ↔ v + 1 ≤ a + c := by omega
  refine ⟨?_, hcarry.trans hborrow, hsigned ▸ hoverflow⟩
  rw [hvalue, Int.natCast_mod, hsum, Int.add_emod_right, Nat.cast_pow]
  rfl

theorem valueOf_toNat_lt (s : State) (n : Bool) (i : Instr) : (s.valueOf n i).toNat < 2 ^ (if n then 8 else 16) := by
  rw [← s.clip_valueOf, clip_toNat]
  exact Nat.mod_lt _ (Nat.two_pow_pos _)

/-- Settles O30: without correction the adder's numbers are those of a sum of `w`-bit numbers; for SBC the second is the
complement, which reads `-1 - sv` signed. -/
theorem binaryAdcSbcAreArithmetic : Obligations.BinaryAdcSbcAreArithmetic := by
  intro i s t hd h w v a c sv sa
  have ha : a < 2 ^ w := (clip_toNat s.m8 s.a).trans_lt (Nat.mod_lt _ (Nat.two_pow_pos _))
  have hv : v < 2 ^ w := valueOf_toNat_lt s s.m8 i
  have hc : c ≤ 1 := Bool.toNat_le _
  have hsa : sa = signedOf w a := signedValue_eq_signedOf ..
  have hsv : sv = signedOf w v := (signedValue_eq_signedOf ..).trans (by rw [s.clip_valueOf])
  rw [hsa, hsv]
  refine ⟨fun hop => ?_, fun hop => ?_⟩
  · have hadd : AdderLeaves s.m8 a v (a + v + c) t := by
      simpa only [hop, if_true, hd, adderSum_binary] using exec_adcSbc_adderLeaves (.inl hop) h
    exact hadd.binary hc ha hv
  · have hadd : AdderLeaves s.m8 a (2 ^ w - 1 - v) (a + (2 ^ w - 1 - v) + c) t := by
      simpa only [hop, reduceCtorEq, if_false, hd, adderSum_binary] using exec_adcSbc_adderLeaves (.inr hop) h
    exact hadd.complement hc ha hv

/-! ### Decimal mode (R171) -/

/-- Where no digit sum exceeds 15, the corrected sum of two-digit decimal numbers is their decimal sum, digit by digit. -/
theorem adderSum_decimal_digits {a1 a0 d1 d0 c : Nat} (hlow : a0 + d0 + c ≤ 15)
    (hhigh : a1 + d1 + (if 9 < a0 + d0 + c then 1 else 0) ≤ 15) :
    let sum := adderSum true true (16 * a1 + a0 + (16 * d1 + d0) + c)
    sum / 256 ≤ 1 ∧ sum / 16 % 16 ≤ 9 ∧ sum % 16 ≤ 9 ∧
    100 * (sum / 256) + 10 * (sum / 16 % 16) + sum % 16 = 10 * a1 + a0 + (10 * d1 + d0) + c := by
  have hdigit0 : (16 * a1 + a0 + (16 * d1 + d0) + c) % 16 = a0 + d0 + c := by omega
  simp only [adderSum_decimal, hdigit0, Bool.true_eq_false, false_and, if_false]
  by_cases h0 : 9 < a0 + d0 + c
  · rw [if_pos h0] at hhigh ⊢
    split <;> omega
  · rw [if_neg h0] at hhigh ⊢
    split <;> omega

/-- Settles O31: A and C hold the corrected sum, whose digits are those of the decimal sum. -/
theorem decimalAdcOfSmallDigitSums : Obligations.DecimalAdcOfSmallDigitSums := by
  intro i s t a1 a0 d1 d0 hop h hm hd _ _ _ _ ha hv c hlow hhigh
  have hadd : AdderLeaves true (16 * a1 + a0) (16 * d1 + d0)
      (adderSum true true (16 * a1 + a0 + (16 * d1 + d0) + c)) t := by
    simpa only [hop, if_true, hm, hd, hv, clip_true, zext_toNat, ha] using exec_adcSbc_adderLeaves (.inl hop) h
  obtain ⟨hvalue, hcarry, -⟩ := hadd
  obtain ⟨hle, hr1, hr0, hsum⟩ := adderSum_decimal_digits hlow hhigh
  generalize adderSum true true (16 * a1 + a0 + (16 * d1 + d0) + c) = sum at *
  rw [clip_true, zext_toNat] at hvalue
  have hc : (t.flag .c).toNat = sum / 256 := by
    cases hf : t.flag .c <;> simp [hf] at hcarry ⊢ <;> omega
  refine ⟨sum / 16 % 16, sum % 16, hr1, hr0, ?_, hc ▸ hsum⟩
  rw [hvalue]
  simp only [if_true]
  omega

end Sys2Proof.Machine
end

section
/-! Logic, compare, bit test and modify (spec/42_alu.md R173 to R181). -/

namespace Sys2Proof.Machine

/-! ### Logic -/

/-- The bitwise operation of AND, ORA and EOR (R173 to R175). -/
def logicOp (op : Op) : Word → Word → Word :=
  match op with
  | .and => (· &&& ·)
  | .ora => (· ||| ·)
  | _ => (· ^^^ ·)

theorem exec_logic {i : Instr} (hop : i.op ∈ [.and, .ora, .eor]) (s : State) :
    exec i s = .next (((s.advance i.op i.operand).writeA s.m8 (logicOp i.op s.a (s.valueOf s.m8 i))).setNZ s.m8
      (logicOp i.op s.a (s.valueOf s.m8 i))) := by
  have hhandler : handlerOf i.op = logic (logicOp i.op) := by
    simp only [List.mem_cons, List.not_mem_nil, or_false] at hop
    rcases hop with h | h | h <;> rw [h] <;> rfl
  rw [exec_eq_next, hhandler, logic, State.advance_operandValue]
  rfl

/-- Settles O32: each of the three writes A with its bitwise operation and ends in `SetNZ`. -/
theorem logicOnTheAccumulator : Obligations.LogicOnTheAccumulator := by
  intro i s hop
  have h := exec_logic hop s
  have hf : footprint i.op = [.a, .p] ∧ flagsWritten i.op = [.n, .z] := by
    simp only [List.mem_cons, List.not_mem_nil, or_false] at hop
    rcases hop with e | e | e <;> rw [e] <;> exact ⟨rfl, rfl⟩
  obtain ⟨hadv, hmem, hframe⟩ := exec_frame h hf.1 (by decide)
  have hacc : AccumulatorIs s.m8 (logicOp i.op s.a (s.valueOf s.m8 i)) s _ := State.writeA_a (s.advance i.op i.operand) _ _
  refine ⟨_, h, hadv, ?_, ?_, ?_, State.writeA_setNZ_setsNZ _ _ _, hf.2 ▸ exec_keepsFlags h, hmem, hframe⟩
  all_goals
    intro e
    rw [e] at hacc ⊢
    exact hacc

/-! ### Compare -/

/-- The width of a compare: the accumulator's for CMP, else the index registers' (R176 to R178). -/
def compareNarrow (op : Op) (s : State) : Bool := if op = .cmp then s.m8 else s.x8

/-- The register compared (R176 to R178). -/
def compareRegister (op : Op) (s : State) : Word := if op = .cmp then s.a else if op = .cpx then s.x else s.y

theorem exec_compare {i : Instr} (hop : i.op ∈ [.cmp, .cpx, .cpy]) (s : State) :
    exec i s = .next ((s.advance i.op i.operand).compare (compareNarrow i.op s) (compareRegister i.op s)
      (s.valueOf (compareNarrow i.op s) i)) := by
  have hhandler : handlerOf i.op = fun o ea s =>
      s.compare (compareNarrow i.op s) (compareRegister i.op s) (s.operandValue (compareNarrow i.op s) o ea) := by
    simp only [List.mem_cons, List.not_mem_nil, or_false] at hop
    rcases hop with h | h | h <;> rw [h] <;> rfl
  simp only [exec_eq_next, hhandler, State.advance_operandValue]
  rfl

/-- The wrapped difference of a compare, read at its width. -/
theorem clip_sub_clip_toNat (n : Bool) (r d : Word) :
    (clip n (clip n r - clip n d)).toNat =
      ((clip n r).toNat + 2 ^ (if n then 8 else 16) - (clip n d).toNat) % 2 ^ (if n then 8 else 16) := by
  rw [clip_toNat, BitVec.toNat_sub]
  have hr := clip_toNat n r
  have hd := clip_toNat n d
  cases n <;> simp only [Bool.false_eq_true, if_false, if_true] at hr hd ⊢ <;> omega

/-- The flags of a compare with an operand that fits the width, as numbers. -/
theorem compare_flags (s : State) {n : Bool} {d : Word} (hd : clip n d = d) (r : Word) :
    let w := if n then 8 else 16
    let t := s.compare n r d
    (t.flag .c = true ↔ d.toNat ≤ (clip n r).toNat) ∧ (t.flag .z = true ↔ (clip n r).toNat = d.toNat) ∧
    (t.flag .n = true ↔ 2 ^ (w - 1) ≤ ((clip n r).toNat + 2 ^ w - d.toNat) % 2 ^ w) := by
  have hdiff := clip_sub_clip_toNat n r d
  refine ⟨?_, ?_, ?_⟩ <;> rw [State.flag_compare]
  · rw [decide_eq_true_iff, hd]
  · rw [isZero_iff, hdiff, hd]
    have hr := clip_toNat n r
    have hdlt := hd ▸ clip_toNat n d
    cases n <;> simp only [Bool.false_eq_true, if_false, if_true] at hr hdlt ⊢ <;> omega
  · rw [signBit_iff, hdiff, hd]

/-- Settles O33: each of the three is one `compare`, and the operand fits the width it is read at. -/
theorem comparesSetFlags : Obligations.ComparesSetFlags := by
  intro i s hop
  have h := exec_compare hop s
  have hf : footprint i.op = [.p] ∧ flagsWritten i.op = [.c, .n, .z] := by
    simp only [List.mem_cons, List.not_mem_nil, or_false] at hop
    rcases hop with e | e | e <;> rw [e] <;> exact ⟨rfl, rfl⟩
  obtain ⟨hadv, hmem, hframe⟩ := exec_frame h hf.1 (by decide)
  exact ⟨_, h, hadv, compare_flags _ (s.clip_valueOf _ i) _, (hf.2 ▸ exec_keepsFlags h).mono (by decide), hmem, hframe⟩

/-! ### Bit test and modify -/

theorem clip_and (n : Bool) (v w : Word) : clip n (v &&& w) = clip n v &&& clip n w := by
  cases n with
  | false => rfl
  | true => simp [zext, lo, BitVec.extractLsb'_and]

/-- The zero test of BIT, TSB and TRB. -/
theorem isZero_and_valueOf (s : State) (n : Bool) (i : Instr) :
    isZero n (s.a &&& s.valueOf n i) = true ↔ (clip n s.a &&& s.valueOf n i) = 0 := by
  rw [isZero, beq_iff_eq, clip_and, s.clip_valueOf]

theorem exec_bit {i : Instr} (hop : i.op = .bit) (s : State) :
    exec i s = .next (bit i.operand (s.eaOf i) (s.advance i.op i.operand)) := by
  rw [exec_eq_next, hop]
  rfl

/-- Z after BIT, in either form (R179). -/
theorem flag_z_bit (o : Operand) (ea : Addr) (s : State) :
    (bit o ea s).flag .z = isZero s.m8 (s.a &&& s.operandValue s.m8 o ea) := by
  by_cases ho : o.mode = .immm
  · rw [bit, if_pos ho, bitImm, State.flag_setFlag_same]
  · rw [bit, if_neg ho, bitMem, State.flag_setFlag_other _ _ (by decide), State.flag_setFlag_other _ _ (by decide),
      State.flag_setFlag_same]

/-- N and V after BIT of a memory operand (R179). -/
theorem flag_nv_bit {o : Operand} (ho : o.mode ≠ .immm) (ea : Addr) (s : State) :
    (bit o ea s).flag .n = (s.operandValue s.m8 o ea).getLsbD (if s.m8 then 7 else 15) ∧
    (bit o ea s).flag .v = (s.operandValue s.m8 o ea).getLsbD (if s.m8 then 6 else 14) := by
  rw [bit, if_neg ho, bitMem, State.flag_setFlag_other _ _ (by decide), State.flag_setFlag_same, State.flag_setFlag_same]
  cases s.m8 <;> exact ⟨rfl, rfl⟩

/-- Settles O34: Z is written in both forms, N and V where the operand is no immediate. -/
theorem bitTestsTheOperand : Obligations.BitTestsTheOperand := by
  intro i s hop
  have h := exec_bit hop s
  obtain ⟨hadv, hmem, hframe⟩ := exec_frame h (ps := [.p]) (by rw [hop]; rfl) (by decide)
  refine ⟨_, h, hadv, ?_, fun hm => ?_, ?_, hmem, hframe⟩
  · rw [flag_z_bit, State.advance_operandValue]
    exact isZero_and_valueOf s s.m8 i
  · have hnv := flag_nv_bit hm (s.eaOf i) (s.advance i.op i.operand)
    rwa [State.advance_operandValue] at hnv
  · by_cases hm : i.operand.mode = .immm
    · rw [if_pos hm]
      exact keepsFlags_of_exec_bit_imm h hop hm
    · rw [if_neg hm]
      exact (exec_keepsFlags h).mono (by rw [hop]; decide)

/-- What TSB and TRB make of an operand and A (R180, R181). -/
def modifyOp (op : Op) (v a : Word) : Word := if op = .tsb then v ||| a else v &&& ~~~a

theorem exec_testAndModify {i : Instr} (hop : i.op = .tsb ∨ i.op = .trb) (s : State) :
    exec i s = .next (((s.advance i.op i.operand).setFlag .z (isZero s.m8 (s.a &&& s.valueOf s.m8 i))).writeSized s.m8
      (s.eaOf i) (modifyOp i.op (s.valueOf s.m8 i) s.a)) := by
  have hhandler : handlerOf i.op = testAndModify (modifyOp i.op) := by
    rcases hop with h | h <;> rw [h] <;> rfl
  rw [exec_eq_next, hhandler, testAndModify, State.advance_operandValue]
  rfl

/-- Settles O35: Z is set from the operand as it was read, then one sized write stores the modified value. -/
theorem testAndModifyBits : Obligations.TestAndModifyBits := by
  intro i s hop
  have h := exec_testAndModify hop s
  have hf : footprint i.op = [.p, .mem] ∧ flagsWritten i.op = [.z] := by
    rcases hop with e | e <;> rw [e] <;> exact ⟨rfl, rfl⟩
  have hadv : Advanced i s _ := advanced_of_exec h (by rw [hf.1]; decide) (by rw [hf.1]; decide)
  refine ⟨_, h, hadv, ?_, hf.2 ▸ exec_keepsFlags h, ?_, rfl⟩
  · rw [State.flag_writeSized, State.flag_setFlag_same]
    exact isZero_and_valueOf s s.m8 i
  · exact State.stored_of_mem (State.writeSized_stored _ s.m8 (s.eaOf i) _) rfl rfl rfl rfl

end Sys2Proof.Machine
end

section
/-! Shift, rotate, increment and decrement (spec/43_shift_incdec.md R190 to R200): what a read-modify-write answers, as numbers,
and where its result goes. -/

namespace Sys2Proof.Machine

/-! ### Words at a width as numbers -/

theorem clip_add_one_toNat (n : Bool) (v : Word) :
    (clip n (v + 1)).toNat = (v.toNat + 1) % 2 ^ (if n then 8 else 16) := by
  rw [clip_toNat, BitVec.toNat_add, Nat.mod_mod_of_dvd _ (by cases n <;> decide)]
  rfl

theorem clip_add_neg_one_toNat (n : Bool) (v : Word) :
    (clip n (v + -1)).toNat = (v.toNat + 2 ^ (if n then 8 else 16) - 1) % 2 ^ (if n then 8 else 16) := by
  have hneg : (-1 : Word).toNat = 2 ^ 16 - 1 := rfl
  rw [clip_toNat, BitVec.toNat_add, hneg]
  cases n <;> simp only [Bool.false_eq_true, if_false, if_true] <;> omega

theorem carryWord_toNat (c : Bool) : (carryWord c).toNat = c.toNat := by cases c <;> rfl

/-- Shifted left by one, a word leaves bit 0 to the carry. -/
theorem clip_shiftLeft_or_carryWord_toNat (n c : Bool) (v : Word) :
    (clip n (v <<< 1 ||| carryWord c)).toNat = (2 * v.toNat + c.toNat) % 2 ^ (if n then 8 else 16) := by
  have hdisjoint : v <<< 1 &&& carryWord c = 0#16 := by
    refine BitVec.eq_of_getLsbD_eq fun j _ => ?_
    cases c <;> simp +contextual [carryWord]
  rw [← BitVec.add_eq_or_of_and_eq_zero _ _ hdisjoint, clip_toNat, BitVec.toNat_add, BitVec.toNat_shiftLeft, carryWord_toNat,
    Nat.shiftLeft_eq]
  cases n <;> simp only [Bool.false_eq_true, if_false, if_true] <;> omega

theorem clip_shiftLeft_toNat (n : Bool) (v : Word) :
    (clip n (v <<< 1)).toNat = 2 * v.toNat % 2 ^ (if n then 8 else 16) := by
  have h := clip_shiftLeft_or_carryWord_toNat n false v
  rwa [carryWord, if_neg Bool.false_ne_true, show (0 : Word) = 0#16 from rfl, BitVec.or_zero] at h

/-- Shifted right by one, a value at the width leaves its top bit to the carry. -/
theorem clip_shiftRight_or_carryWord_toNat (n c : Bool) (v : Word) :
    (clip n (clip n v >>> 1 ||| carryWord c <<< (if n then 7 else 15))).toNat =
      (clip n v).toNat / 2 + c.toNat * 2 ^ ((if n then 8 else 16) - 1) := by
  have hlt := clip_toNat n v
  have hlow : (clip n v >>> 1).toNat = (clip n v).toNat / 2 := by rw [BitVec.toNat_ushiftRight, Nat.shiftRight_eq_div_pow]
  have hhigh : (carryWord c <<< (if n then 7 else 15)).toNat = c.toNat <<< ((if n then 8 else 16) - 1) := by
    cases n <;> cases c <;> rfl
  have hfits : (clip n v).toNat / 2 < 2 ^ ((if n then 8 else 16) - 1) := by
    cases n <;> simp only [Bool.false_eq_true, if_false, if_true] at hlt ⊢ <;> omega
  rw [clip_toNat, BitVec.toNat_or, hlow, hhigh, Nat.or_comm, ← Nat.shiftLeft_add_eq_or_of_lt hfits, Nat.shiftLeft_eq,
    Nat.add_comm, Nat.mod_eq_of_lt]
  have hc := c.toNat_le
  cases n <;> simp only [Bool.false_eq_true, if_false, if_true] at hfits ⊢ <;> omega

theorem clip_shiftRight_toNat (n : Bool) (v : Word) : (clip n (clip n v >>> 1)).toNat = (clip n v).toNat / 2 := by
  rw [clip_toNat, BitVec.toNat_ushiftRight, Nat.shiftRight_eq_div_pow, Nat.pow_one, Nat.mod_eq_of_lt]
  have hlt := clip_toNat n v
  cases n <;> simp only [Bool.false_eq_true, if_false, if_true] at hlt ⊢ <;> omega

theorem getLsbD_zero_eq_decide (v : Word) : v.getLsbD 0 = decide (v.toNat % 2 = 1) := Nat.testBit_zero _

theorem signBit_eq_decide {n : Bool} {v : Word} (hv : clip n v = v) :
    signBit n v = decide (2 ^ ((if n then 8 else 16) - 1) ≤ v.toNat) := by
  rw [Bool.eq_iff_iff, signBit_iff, hv, decide_eq_true_iff]

/-! ### What a read-modify-write answers (R190 to R195) -/

/-- The mnemonics of the read-modify-write frame (R200). -/
def rmwOps : List Op := [.asl, .lsr, .rol, .ror, .inc, .dec]

/-- What a read-modify-write mnemonic makes of its operand. -/
def rmwResult (op : Op) (n c : Bool) (v : Word) : RmwResult :=
  match op with
  | .asl => ⟨some (signBit n v), clip n (v <<< 1)⟩
  | .lsr => ⟨some (v.getLsbD 0), clip n (clip n v >>> 1)⟩
  | .rol => ⟨some (signBit n v), clip n (v <<< 1 ||| carryWord c)⟩
  | .ror => ⟨some (v.getLsbD 0), clip n (clip n v >>> 1 ||| carryWord c <<< (if n then 7 else 15))⟩
  | .inc => ⟨none, clip n (v + 1)⟩
  | _ => ⟨none, clip n (v - 1)⟩

variable {op : Op}

theorem handlerOf_rmw (hop : op ∈ rmwOps) : handlerOf op = rmw (rmwResult op) := by
  cases op with
  | asl | lsr | rol | ror | inc | dec => rfl
  | _ => exact absurd hop (by decide)

theorem clip_rmwResult_value (op : Op) (n c : Bool) (v : Word) :
    clip n (rmwResult op n c v).value = (rmwResult op n c v).value := by
  cases op <;> exact clip_clip n _

theorem rmwResult_value_toNat (hop : op ∈ rmwOps) {n : Bool} {v : Word} (hv : clip n v = v) (c : Bool) :
    (rmwResult op n c v).value.toNat = rmwValue op (if n then 8 else 16) c v.toNat := by
  cases op with
  | asl => exact clip_shiftLeft_toNat n v
  | lsr => exact (clip_shiftRight_toNat n v).trans (by rw [hv]; rfl)
  | rol => exact clip_shiftLeft_or_carryWord_toNat n c v
  | ror => exact (clip_shiftRight_or_carryWord_toNat n c v).trans (by rw [hv]; rfl)
  | inc => exact clip_add_one_toNat n v
  | dec =>
    change (clip n (v - 1)).toNat = _
    rw [BitVec.sub_eq_add_neg]
    exact clip_add_neg_one_toNat n v
  | _ => exact absurd hop (by decide)

theorem ofNat_rmwValue (hop : op ∈ rmwOps) {n : Bool} {v : Word} (hv : clip n v = v) (c : Bool) :
    BitVec.ofNat 16 (rmwValue op (if n then 8 else 16) c v.toNat) = (rmwResult op n c v).value := by
  rw [← rmwResult_value_toNat hop hv, BitVec.ofNat_toNat, BitVec.setWidth_eq]

theorem rmwResult_carry (hop : op ∈ rmwOps) {n : Bool} {v : Word} (hv : clip n v = v) (c : Bool) :
    (rmwResult op n c v).carry.getD c = rmwCarry op (if n then 8 else 16) c v.toNat := by
  cases op with
  | asl | rol => exact signBit_eq_decide hv
  | lsr | ror => exact getLsbD_zero_eq_decide v
  | inc | dec => rfl
  | _ => exact absurd hop (by decide)

/-! ### The frame (R200) -/

/-- N and Z after a read-modify-write are those of its result. -/
theorem State.setRmwFlags_setsNZ (s : State) (n : Bool) (r : RmwResult) : SetsNZ n r.value (s.setRmwFlags n r) :=
  ⟨by rw [flag_setRmwFlags], by rw [flag_setRmwFlags]; exact isZero_iff n r.value⟩

/-- The modes of the read-modify-writes: the accumulator, or memory. -/
theorem mode_of_rmw {i : Instr} (hop : i.op ∈ rmwOps) : i.operand.mode ∈ [.acc, .dpag, .dpgx, .abs, .absx] := by
  have hmap : ∀ row ∈ opcodeMap, ∀ e ∈ row, e.1 ∈ rmwOps → e.2 ∈ [Mode.acc, .dpag, .dpgx, .abs, .absx] := by decide
  obtain ⟨row, _, _, hrow, hentry, -⟩ := opcodeEntry_eq_some_iff.mp (opcodeEntry_opcode i)
  exact hmap row (List.mem_of_getElem? hrow) _ (List.mem_of_getElem? hentry) hop

/-- The value a read-modify-write reads from memory is its operand. -/
theorem readSized_eaOf_of_rmw {i : Instr} (hop : i.op ∈ rmwOps) (hm : i.operand.mode ≠ .acc) (s : State) (n : Bool) :
    s.readSized n (s.eaOf i) = s.valueOf n i := by
  have hmemory : ∀ m ∈ [Mode.acc, .dpag, .dpgx, .abs, .absx], m ≠ .acc → m ∉ [.impl, .acc, .immb, .immw, .immm, .immx] := by
    decide
  exact (s.operandValue_of_memory (hmemory _ (mode_of_rmw hop) hm) n _).symm

theorem exec_rmw_acc {i : Instr} (hop : i.op ∈ rmwOps) (hm : i.operand.mode = .acc) (s : State) :
    let r := rmwResult i.op s.m8 (s.flag .c) (clip s.m8 s.a)
    exec i s = .next (((s.advance i.op i.operand).writeA s.m8 r.value).setRmwFlags s.m8 r) := by
  rw [exec_eq_next, handlerOf_rmw hop, rmw_acc _ _ _ _ hm]
  rfl

theorem exec_rmw_mem {i : Instr} (hop : i.op ∈ rmwOps) (hm : i.operand.mode ≠ .acc) (s : State) :
    let r := rmwResult i.op s.m8 (s.flag .c) (s.valueOf s.m8 i)
    exec i s = .next (((s.advance i.op i.operand).writeSized s.m8 (s.eaOf i) r.value).setRmwFlags s.m8 r) := by
  rw [exec_eq_next, handlerOf_rmw hop, rmw_mem _ _ _ _ hm, State.advance_m8, State.advance_readSized,
    readSized_eaOf_of_rmw hop hm]
  rfl

theorem exec_rmw_frame {i : Instr} (hop : i.op ∈ rmwOps) {s t : State} (h : exec i s = .next t) :
    Advanced i s t ∧ KeepsFlags [.c, .n, .z] s t := by
  have hf : footprint i.op = [.a, .mem, .p] ∧ flagsWritten i.op ⊆ [.c, .n, .z] := by
    generalize i.op = op at hop
    cases op with
    | asl | lsr | rol | ror | inc | dec => exact ⟨rfl, by decide⟩
    | _ => exact absurd hop (by decide)
  obtain ⟨hparts, hflags⟩ := hf
  exact ⟨advanced_of_exec h (by rw [hparts]; decide) (by rw [hparts]; decide), (exec_keepsFlags h).mono hflags⟩

/-- Settles O36: the value read is the accumulator at its width, and the result fits the width it is written back at. -/
theorem rmwOnTheAccumulator : Obligations.RmwOnTheAccumulator := by
  intro i s hop hm
  have h := exec_rmw_acc hop hm s
  have hfits := clip_clip s.m8 s.a
  obtain ⟨hadv, hflags⟩ := exec_rmw_frame hop h
  refine ⟨_, h, hadv, ⟨?_, ?_⟩, fun h8 => hi_writeA_of_narrow h8 (s.advance i.op i.operand) _, ?_, hflags,
    State.keepsMemory_of_mem rfl rfl, rfl⟩
  · rw [State.setRmwFlags_a, State.clip_writeA, clip_rmwResult_value]
    exact rmwResult_value_toNat hop hfits _
  · rw [State.flag_setRmwFlags]
    exact rmwResult_carry hop hfits _
  · exact State.setsNZ_of_clip_eq (State.clip_writeA _ s.m8 _).symm (State.setRmwFlags_setsNZ _ s.m8 _)

/-- Settles O37: one sized read is the operand, one sized write stores the result, and the flags are the result's, wherever the
write goes. -/
theorem rmwOnMemory : Obligations.RmwOnMemory := by
  intro i s hop hm
  have h := exec_rmw_mem hop hm s
  have hfits := s.clip_valueOf s.m8 i
  obtain ⟨hadv, hflags⟩ := exec_rmw_frame hop h
  refine ⟨_, h, hadv, ?_, hflags, rfl⟩
  intro w v r
  have hr : r = (rmwResult i.op s.m8 (s.flag .c) (s.valueOf s.m8 i)).value := ofNat_rmwValue hop hfits _
  rw [hr]
  refine ⟨State.stored_of_mem (State.writeSized_stored _ s.m8 (s.eaOf i) _) rfl rfl rfl rfl, ?_,
    State.setRmwFlags_setsNZ _ s.m8 _⟩
  rw [State.flag_setRmwFlags]
  exact rmwResult_carry hop hfits _

/-! ### The index registers (R196 to R199) -/

/-- An instruction whose handler adds a constant to X leaves all but X, N and Z as the consumed instruction did. -/
theorem exec_addToX {i : Instr} {d : Word} (hhandler : handlerOf i.op = addToX d) (s : State) :
    ∃ t, exec i s = .next t ∧ Advanced i s t ∧ (t.x.toNat = (clip s.x8 (s.x + d)).toNat ∧ SetsNZ s.x8 t.x t ∧ t.y = s.y) ∧
      KeepsFlags [.n, .z] s t ∧ KeepsMemory s t ∧ { t with x := s.x, y := s.y, p := s.p, pc := s.pc, cyc := s.cyc } = s := by
  obtain ⟨hadv, -, hflags, hmem⟩ := setNZ_frame (i := i)
    ((State.writeX_keepsParts _ s.x8 (s.x + d)).mono (by decide)) s.x8 (s.x + d)
  exact ⟨_, by rw [exec_eq_next, hhandler]; rfl, hadv, ⟨rfl, State.writeX_setNZ_setsNZ _ _ _, rfl⟩, hflags, hmem, rfl⟩

/-- The same of Y. -/
theorem exec_addToY {i : Instr} {d : Word} (hhandler : handlerOf i.op = addToY d) (s : State) :
    ∃ t, exec i s = .next t ∧ Advanced i s t ∧ (t.y.toNat = (clip s.x8 (s.y + d)).toNat ∧ SetsNZ s.x8 t.y t ∧ t.x = s.x) ∧
      KeepsFlags [.n, .z] s t ∧ KeepsMemory s t ∧ { t with x := s.x, y := s.y, p := s.p, pc := s.pc, cyc := s.cyc } = s := by
  obtain ⟨hadv, -, hflags, hmem⟩ := setNZ_frame (i := i)
    ((State.writeY_keepsParts _ s.x8 (s.y + d)).mono (by decide)) s.x8 (s.y + d)
  exact ⟨_, by rw [exec_eq_next, hhandler]; rfl, hadv, ⟨rfl, State.writeY_setNZ_setsNZ _ _ _, rfl⟩, hflags, hmem, rfl⟩

/-- Settles O38: each of the four adds 1 or -1 to its register at the index width. -/
theorem indexIncrementDecrement : Obligations.IndexIncrementDecrement := by
  intro i s hop
  simp only [List.mem_cons, List.not_mem_nil, or_false] at hop
  rcases hop with h | h | h | h
  all_goals
    simp only [h, reduceCtorEq, false_imp_iff, true_imp_iff, and_true, true_and, ← clip_add_one_toNat,
      ← clip_add_neg_one_toNat]
  · exact exec_addToX (by rw [h]; rfl) s
  · exact exec_addToY (by rw [h]; rfl) s
  · exact exec_addToX (by rw [h]; rfl) s
  · exact exec_addToY (by rw [h]; rfl) s

end Sys2Proof.Machine
end

section
/-! Branches (spec/44_branches.md): the 8-bit relative ones are one operation under a condition each, BRL the target without
it. -/

namespace Sys2Proof.Machine

/-! ### `Branch(cond)` (R210) -/

theorem branch_of_taken {cond : State → Bool} {s : State} (h : cond s = true) (o : Operand) (ea : Addr) :
    branch cond o ea s = { s with pc := offsetOf ea, cyc := s.cyc + takenCycles ea s } := by
  rw [branch, h, if_pos rfl, if_pos rfl]

theorem branch_of_not_taken {cond : State → Bool} {s : State} (h : cond s = false) (o : Operand) (ea : Addr) :
    branch cond o ea s = s := by
  rw [branch, h, if_neg Bool.false_ne_true, if_neg Bool.false_ne_true]

/-- The page test of R372, as a proposition. -/
theorem takenCycles_eq (ea : Addr) (s : State) :
    takenCycles ea s = 1 + if s.e = true ∧ hi (offsetOf ea) ≠ hi s.pc then 1 else 0 := by
  simp only [takenCycles, Bool.and_eq_true, bne_iff_ne]

/-! ### The 8-bit relative branches (R211 to R219) -/

/-- A relative branch is two bytes long (R99). -/
theorem State.nextPc_of_rela {i : Instr} {d : Byte} (h : i.operand = .rela d) (s : State) : s.nextPc i = s.pc + 2 := by
  rw [State.nextPc, Instr.length, h]
  rfl

theorem handlerOf_relativeBranch {op : Op} (hop : op ∈ [.bcc, .bcs, .beq, .bne, .bmi, .bpl, .bvc, .bvs, .bra]) :
    handlerOf op = branch (branchTaken op) := by
  simp only [List.mem_cons, List.not_mem_nil, or_false] at hop
  rcases hop with rfl | rfl | rfl | rfl | rfl | rfl | rfl | rfl | rfl <;> rfl

/-- Consuming an instruction writes no flag, so it does not change whether a branch is taken. -/
theorem branchTaken_advance (op op' : Op) (o : Operand) (s : State) :
    branchTaken op (s.advance op' o) = branchTaken op s := rfl

theorem exec_relativeBranch {i : Instr} (hop : i.op ∈ [.bcc, .bcs, .beq, .bne, .bmi, .bpl, .bvc, .bvs, .bra]) (s : State) :
    exec i s = .next (branch (branchTaken i.op) i.operand (s.eaOf i) (s.advance i.op i.operand)) := by
  rw [exec_eq_next, handlerOf_relativeBranch hop]

/-- Settles O39: an 8-bit relative branch is `Branch(cond)` of its mnemonic's condition, whose two outcomes are the target with
the additions, and the consumed instruction as it is; BRL is its target. -/
theorem branchesGoToTheTarget : Obligations.BranchesGoToTheTarget := by
  refine ⟨fun i s d hop hd => ?_, fun w s => ?_⟩
  · have hpc : (s.advance i.op i.operand).pc = s.pc + 2 := (s.advance_nextPc i).trans (State.nextPc_of_rela hd s)
    refine ⟨_, exec_relativeBranch hop s, fun htaken => ?_, fun hnot => ?_, State.keepsMemory_of_mem rfl rfl, rfl⟩
    · rw [branch_of_taken ((branchTaken_advance _ _ _ s).trans htaken), takenCycles_eq, hpc]
      have htarget : ((offsetOf (s.eaOf i)).toNat : Int) = (s.pc.toNat + 2 + d.toInt) % 2 ^ 16 := by
        rw [State.eaOf, hd, s.offsetOf_ea_rela]
      exact ⟨htarget, (Nat.add_assoc _ _ _).symm⟩
    · rw [branch_of_not_taken ((branchTaken_advance _ _ _ s).trans hnot)]
      exact ⟨hpc, s.advance_costOf i⟩
  · exact ⟨_, exec_eq_next _ s, s.offsetOf_ea_lrel w, s.advance_costOf (.brl w), State.keepsMemory_of_mem rfl rfl, rfl⟩

end Sys2Proof.Machine
end

section
/-! The stack (spec/45_stack.md): a pull after a push gives the bytes back in reverse, every push is its bytes pushed on the
state with the instruction consumed, and every pull is SP moved, the register written and `SetNZ`. -/

namespace Sys2Proof.Machine

/-! ### Pulls after pushes (R225 to R228) -/

namespace State

/-- Each pull takes SP back over one push. -/
theorem pulledSp_of_slot {s t : State} (he : t.e = s.e) {j k : Nat} (hsp : t.sp = s.slot (j + k)) :
    t.pulledSp k = s.slot j := by
  induction k generalizing j with
  | zero => exact hsp
  | succ k ih =>
    have hk : t.pulledSp k = s.slot (j + 1) := ih (by rw [hsp, Nat.add_right_comm, Nat.add_assoc])
    rw [pulledSp, hk, he, slot_succ, spUp_spDown]

/-- Where the slots are in RAM and differ, the bytes pushed come off in reverse order. -/
theorem pulledByte_of_pushed {bytes : List Byte} {s t : State} (h : Pushed bytes s t) (he : t.e = s.e)
    (hram : s.slotsInRam bytes.length) {j k : Nat} {b : Byte} (hb : bytes[j]? = some b) (hjk : j + (k + 1) = bytes.length) :
    t.pulledByte k = b := by
  obtain ⟨hsp, -, -, hread⟩ := h
  obtain ⟨hinRam, hdistinct⟩ := hram
  have hj : j < bytes.length := by omega
  rw [pulledByte, pulledSp_of_slot he (hjk ▸ hsp)]
  exact hread j b hb (hinRam j hj) fun l hjl hl => hdistinct l hl j hj (by omega)

/-- As many pulls as bytes were pushed put SP back. -/
theorem pulledSp_of_pushed {bytes : List Byte} {s t : State} (h : Pushed bytes s t) (he : t.e = s.e) :
    t.pulledSp bytes.length = s.sp := pulledSp_of_slot (j := 0) he (by rw [h.1, Nat.zero_add])

end State

/-- Settles O40: a push of a word is its two bytes pushed, which come off in reverse. -/
theorem stackSymmetry : Obligations.StackSymmetry := by
  intro s v b
  have hword := s.push16_pushed v
  have hbyte := s.push8_pushed b
  refine ⟨fun hram => ⟨?_, State.pulledSp_of_pushed hword rfl⟩, fun hram => ⟨?_, State.pulledSp_of_pushed hbyte rfl⟩⟩
  · have hlow : (s.push16 v).pulledByte 0 = lo v := State.pulledByte_of_pushed hword rfl hram (j := 1) rfl rfl
    have hhigh : (s.push16 v).pulledByte 1 = hi v := State.pulledByte_of_pushed hword rfl hram (j := 0) rfl rfl
    have hvalue : (s.push16 v).pull16.1 = wordOf ((s.push16 v).pulledByte 1) ((s.push16 v).pulledByte 0) := rfl
    rw [hvalue, hlow, hhigh, wordOf_hi_lo]
  · rw [State.pull8_value]
    exact State.pulledByte_of_pushed hbyte rfl hram (j := 0) rfl rfl

/-! ### Pushes (R229 to R235, R242 to R244) -/

/-- What a handler pushes on the state with its instruction consumed is what the instruction pushes. -/
theorem pushed_of_exec {i : Instr} {s t : State} {op : Op} {bytes : List Byte} (h : exec i s = .next t) (hop : i.op = op)
    (hp : Pushed bytes (s.advance op i.operand) (handlerOf op i.operand (s.eaOf i) (s.advance op i.operand))) :
    Pushed bytes s t := by
  rw [eq_handlerOf_of_exec h hop]
  exact State.pushed_of_mem hp rfl rfl rfl rfl rfl rfl rfl

theorem footprint_push {op : Op} (hop : op ∈ [.pha, .phx, .phy, .php, .phb, .phd, .phk, .pea, .pei, .per]) :
    footprint op = [.mem, .sp] := by
  revert hop
  cases op <;> decide

/-- A push writes nothing but memory, SP, PC and CYC. -/
theorem exec_push_frame {i : Instr} {s t : State} (h : exec i s = .next t) (hf : footprint i.op = [.mem, .sp]) :
    Advanced i s t ∧ { t with sp := s.sp, mem := s.mem, pc := s.pc, cyc := s.cyc } = s := by
  have hrestore := (exec_keepsParts h).restore_eq
  rw [stepFootprint, hf] at hrestore
  exact ⟨advanced_of_exec h (by simp [hf]) (by simp [hf]), hrestore⟩

/-- Settles O41: every mnemonic's handler is one push of its value at its width, which is its bytes pushed. -/
theorem pushesWriteTheStack : Obligations.PushesWriteTheStack := by
  intro i s hop
  have h := exec_eq_next i s
  obtain ⟨hadv, hframe⟩ := exec_push_frame h (footprint_push hop)
  refine ⟨_, h, hadv, fun hpha => ?_, fun hphx => ?_, fun hphy => ?_, fun hphp => ?_, fun hphb => ?_, fun hphd => ?_,
    fun hphk => ?_, fun hpeaPei => ?_, fun hper => ?_, hframe⟩
  · exact pushed_of_exec h hpha (State.pushSized_pushed _ _ _)
  · exact pushed_of_exec h hphx (State.pushSized_pushed _ _ _)
  · exact pushed_of_exec h hphy (State.pushSized_pushed _ _ _)
  · exact pushed_of_exec h hphp (State.push8_pushed _ _)
  · exact pushed_of_exec h hphb (State.push8_pushed _ _)
  · exact pushed_of_exec h hphd (State.push16_pushed _ _)
  · exact pushed_of_exec h hphk (State.push8_pushed _ _)
  · simp only [List.mem_cons, List.not_mem_nil, or_false] at hpeaPei
    rcases hpeaPei with hpea | hpei
    · exact pushed_of_exec h hpea (State.push16_pushed _ _)
    · exact pushed_of_exec h hpei (State.push16_pushed _ _)
  · exact pushed_of_exec h hper (State.push16_pushed _ _)

/-! ### Pulls (R236 to R238, R240, R241) -/

/-- A sized pull reads its value and moves SP, and nothing else. -/
theorem State.pullSized_eq (s : State) (n : Bool) :
    s.pullSized n = (s.pulledValue n, { s with sp := s.pulledSp (accessSize n) }) := by cases n <;> rfl

/-- A value pulled at a width fits it. -/
theorem State.clip_pulledValue (s : State) (n : Bool) : clip n (s.pulledValue n) = s.pulledValue n := by
  cases n <;> simp [pulledValue]

@[simp] theorem State.advance_pulledSp (s : State) (op : Op) (o : Operand) (k : Nat) :
    (s.advance op o).pulledSp k = s.pulledSp k := pulledSp_congr (s.advance_e op o) (s.advance_sp op o) k

theorem pla_eq (o : Operand) (ea : Addr) (s : State) : pla o ea s =
    ({ s with sp := s.pulledSp (accessSize s.m8) }.writeA s.m8 (s.pulledValue s.m8)).setNZ s.m8 (s.pulledValue s.m8) := by
  rw [pla, s.pullSized_eq]

/-- An index register pulled holds the value itself, which fits the index width. -/
theorem plx_eq (o : Operand) (ea : Addr) (s : State) : plx o ea s =
    { s with sp := s.pulledSp (accessSize s.x8), x := s.pulledValue s.x8 }.setNZ s.x8 (s.pulledValue s.x8) := by
  rw [plx, s.pullSized_eq, State.writeX, s.clip_pulledValue]

theorem ply_eq (o : Operand) (ea : Addr) (s : State) : ply o ea s =
    { s with sp := s.pulledSp (accessSize s.x8), y := s.pulledValue s.x8 }.setNZ s.x8 (s.pulledValue s.x8) := by
  rw [ply, s.pullSized_eq, State.writeY, s.clip_pulledValue]

theorem plb_eq (o : Operand) (ea : Addr) (s : State) : plb o ea s =
    { s with sp := s.pulledSp 1, dbr := s.pulledByte 0 }.setNZ true (zext (s.pulledByte 0)) := rfl

theorem pld_eq (o : Operand) (ea : Addr) (s : State) : pld o ea s =
    { s with sp := s.pulledSp 2, dp := s.pulledValue false }.setNZ false (s.pulledValue false) := rfl

/-- The pulls of a register in the tables of what is written. -/
theorem footprint_pull {op : Op} (hop : op ∈ [.pla, .plx, .ply, .plb, .pld]) :
    .pc ∉ footprint op ∧ .cyc ∉ footprint op ∧ .mem ∉ stepFootprint op ∧ flagsWritten op = [.n, .z] := by
  revert hop
  cases op <;> decide

/-- Settles O42: each handler is its equation, and what it leaves alone is in the tables. -/
theorem pullsReadTheStack : Obligations.PullsReadTheStack := by
  intro i s hop
  have h := exec_eq_next i s
  obtain ⟨hpc, hcyc, hmem, hflags⟩ := footprint_pull hop
  refine ⟨_, h, advanced_of_exec h hpc hcyc, fun hpla => ?_, fun hplx => ?_, fun hply => ?_, fun hplb => ?_, fun hpld => ?_,
    hflags ▸ exec_keepsFlags h, keepsMemory_of_exec h hmem⟩
  · rw [hpla, handlerOf, pla_eq]
    exact ⟨rfl, State.setNZ_setsNZ _ _ _, rfl, s.advance_pulledSp _ _ _⟩
  · rw [hplx, handlerOf, plx_eq]
    exact ⟨rfl, State.setNZ_setsNZ _ _ _, rfl, s.advance_pulledSp _ _ _⟩
  · rw [hply, handlerOf, ply_eq]
    exact ⟨rfl, State.setNZ_setsNZ _ _ _, rfl, s.advance_pulledSp _ _ _⟩
  · rw [hplb, handlerOf, plb_eq]
    exact ⟨rfl, State.setNZ_setsNZ _ _ _, rfl, rfl⟩
  · rw [hpld, handlerOf, pld_eq]
    exact ⟨rfl, State.setNZ_setsNZ _ _ _, rfl, rfl⟩

end Sys2Proof.Machine
end

section
/-! Register transfers (spec/46_transfers.md): each is one write of its source register, at the destination's width, with SP's
page forced, or at 16 bits; XBA writes A with its bytes exchanged. -/

namespace Sys2Proof.Machine

/-- The transfers that set N and Z in the tables of what is written. -/
theorem footprint_transfer {op : Op}
    (hop : op ∈ [.tax, .tay, .txa, .tya, .txy, .tyx, .tsx] ∨ op ∈ [.tsc, .tcd, .tdc, .xba]) :
    .pc ∉ footprint op ∧ .cyc ∉ footprint op ∧ .mem ∉ stepFootprint op ∧ flagsWritten op = [.n, .z] := by
  revert hop
  cases op <;> decide

/-! ### At the destination's width (R260 to R266) -/

/-- The register a transfer to A, X or Y copies. -/
def transferSource (op : Op) (s : State) : Word :=
  if op ∈ [.tax, .tay] then s.a else if op ∈ [.txa, .txy] then s.x else if op ∈ [.tya, .tyx] then s.y else s.sp

theorem transferSource_advance (op op' : Op) (o : Operand) (s : State) :
    transferSource op (s.advance op' o) = transferSource op s := rfl

theorem handlerOf_transferToX {op : Op} (hop : op ∈ [.tax, .tyx, .tsx]) : handlerOf op = toX (transferSource op) := by
  simp only [List.mem_cons, List.not_mem_nil, or_false] at hop
  rcases hop with rfl | rfl | rfl <;> rfl

theorem handlerOf_transferToY {op : Op} (hop : op ∈ [.tay, .txy]) : handlerOf op = toY (transferSource op) := by
  simp only [List.mem_cons, List.not_mem_nil, or_false] at hop
  rcases hop with rfl | rfl <;> rfl

theorem handlerOf_transferToA {op : Op} (hop : op ∈ [.txa, .tya]) : handlerOf op = toA (transferSource op) := by
  simp only [List.mem_cons, List.not_mem_nil, or_false] at hop
  rcases hop with rfl | rfl <;> rfl

/-- Settles O45: by destination, the handler is one register write and `SetNZ`, both of the source. -/
theorem transfersAtTheDestinationsWidth : Obligations.TransfersAtTheDestinationsWidth := by
  intro i s hop
  have h := exec_eq_next i s
  obtain ⟨hpc, hcyc, hmem, hflags⟩ := footprint_transfer (.inl hop)
  refine ⟨_, h, advanced_of_exec h hpc hcyc, ⟨fun hx => ?_, fun hy => ?_, fun ha => ?_⟩, hflags ▸ exec_keepsFlags h,
    keepsMemory_of_exec h hmem⟩
  · rw [handlerOf_transferToX hx, toX, transferSource_advance]
    exact ⟨rfl, State.setNZ_setsNZ _ _ _, rfl⟩
  · rw [handlerOf_transferToY hy, toY, transferSource_advance]
    exact ⟨rfl, State.setNZ_setsNZ _ _ _, rfl⟩
  · rw [handlerOf_transferToA ha, toA, transferSource_advance]
    exact ⟨rfl, State.setNZ_setsNZ _ _ _, rfl⟩

/-! ### To the stack pointer (R267, R268) -/

/-- The register a transfer to SP copies. -/
def stackTransferSource (op : Op) (s : State) : Word := if op = .txs then s.x else s.a

theorem handlerOf_transferToSp {op : Op} (hop : op = .txs ∨ op = .tcs) : handlerOf op = toSp (stackTransferSource op) := by
  rcases hop with rfl | rfl <;> rfl

/-- SP after a transfer to it: the source, with page 1 forced in emulation mode. -/
theorem toSp_sp_bytes (v : State → Word) (o : Operand) (ea : Addr) (s : State) :
    if s.e = true then hi (toSp v o ea s).sp = 0x01 ∧ lo (toSp v o ea s).sp = lo (v s) else (toSp v o ea s).sp = v s := by
  have hsp : (toSp v o ea s).sp = if s.e = true then wordOf 0x01 (lo (v s)) else v s := rfl
  split_ifs with he
  · rw [hsp, if_pos he]
    exact ⟨hi_wordOf _ _, lo_wordOf _ _⟩
  · rw [hsp, if_neg he]

/-- Settles O46: both handlers are `toSp` of their source, and SP is all they write. -/
theorem transfersToTheStackPointer : Obligations.TransfersToTheStackPointer := by
  intro i s hop
  have h := exec_eq_next i s
  have hf : footprint i.op = [.sp] := by rcases hop with e | e <;> rw [e] <;> rfl
  obtain ⟨hadv, hmem, hframe⟩ := exec_frame h hf (by decide)
  refine ⟨_, h, hadv, ?_, hmem, hframe⟩
  rw [handlerOf_transferToSp hop]
  exact toSp_sp_bytes _ _ _ (s.advance i.op i.operand)

/-! ### Sixteen bits, and XBA (R269 to R272) -/

theorem stepFootprint_sixteenBitTransfer {op : Op} (hop : op ∈ [.tsc, .tcd, .tdc, .xba]) :
    stepFootprint op ⊆ [.pc, .cyc, .a, .dp, .p] := by
  revert hop
  cases op <;> decide

/-- XBA exchanges the bytes of A, and N and Z are those of the new low byte. -/
theorem xba_bytes (o : Operand) (ea : Addr) (s : State) :
    lo (xba o ea s).a = hi s.a ∧ hi (xba o ea s).a = lo s.a ∧ SetsNZ true (xba o ea s).a (xba o ea s) := by
  have ha : (xba o ea s).a = wordOf (lo s.a) (hi s.a) := rfl
  have hnz : SetsNZ true (zext (hi s.a)) (xba o ea s) := State.setNZ_setsNZ _ _ _
  rw [ha]
  exact ⟨lo_wordOf _ _, hi_wordOf _ _, State.setsNZ_of_clip_eq (by simp) hnz⟩

/-- Settles O47: TSC, TCD and TDC are one 16-bit register write and `SetNZ` of the value; XBA is `xba_bytes`. -/
theorem sixteenBitTransfersAndXba : Obligations.SixteenBitTransfersAndXba := by
  intro i s hop
  have h := exec_eq_next i s
  obtain ⟨hpc, hcyc, hmem, hflags⟩ := footprint_transfer (.inr hop)
  refine ⟨_, h, advanced_of_exec h hpc hcyc, fun htsc => ?_, fun htcd => ?_, fun htdc => ?_, fun hxba => ?_,
    hflags ▸ exec_keepsFlags h, keepsMemory_of_exec h hmem,
    ((exec_keepsParts h).mono (stepFootprint_sixteenBitTransfer hop)).restore_eq⟩
  · rw [htsc, handlerOf, tsc]
    exact ⟨rfl, State.setNZ_setsNZ _ _ _, rfl⟩
  · rw [htcd, handlerOf, tcd]
    exact ⟨rfl, State.setNZ_setsNZ _ _ _, rfl⟩
  · rw [htdc, handlerOf, tdc]
    exact ⟨rfl, State.setNZ_setsNZ _ _ _, rfl⟩
  · rw [hxba, handlerOf]
    obtain ⟨hlo, hhi, hnz⟩ := xba_bytes i.operand (s.eaOf i) (s.advance .xba i.operand)
    exact ⟨hlo, hhi, hnz, rfl⟩

end Sys2Proof.Machine
end

section
/-! Block move (spec/47_block_move.md R280 to R282): one step as one byte moved, and a whole move as its first byte moved and then
the rest of the move from the state that leaves. -/

namespace Sys2Proof.Machine

/-- A run begins with its first step. -/
theorem run_succ_of_step {M : Host.Core} {s u : M.State} (h : M.step s = .next u) (n : Nat) : M.run (n + 1) s = M.run n u := by
  rw [Host.Core.run, h]

/-- At its width a sum looks at its first term at that width alone. -/
theorem clip_clip_add (narrow : Bool) (v w : Word) : clip narrow (clip narrow v + w) = clip narrow (v + w) := by
  apply BitVec.eq_of_toNat_eq
  cases narrow <;> simp [zext_toNat, lo_toNat]

/-- MVN, or MVP where it goes down, with its bank bytes. -/
structure BlockMove where
  down : Bool
  dst : Byte
  src : Byte

namespace BlockMove

variable (m : BlockMove) (s : State)

/-- The instruction (R281, R282). -/
def instr : Instr := if m.down then .mvp m.dst m.src else .mvn m.dst m.src

/-- What a move of one byte adds to X and Y. -/
def delta : Word := if m.down then -1 else 1

/-- An index register after `k` bytes moved, at its width. -/
def moved (narrow : Bool) (v : Word) (k : Nat) : Word :=
  clip narrow (if m.down then v - BitVec.ofNat 16 k else v + BitVec.ofNat 16 k)

/-- Where the `k`-th byte moved from `s` on comes from, counted from 0. -/
def source (k : Nat) : Addr := addrOf m.src (m.moved s.x8 s.x k)

/-- Where that byte goes to. -/
def dest (k : Nat) : Addr := addrOf m.dst (m.moved s.x8 s.y k)

/-- `BlockMoveStep` as a whole step (R280): PC stays at the instruction until the counter was 0. -/
def moveByte : State :=
  { s with
    dbr := m.dst
    mem := s.cfg.writeByte s.mem (addrOf m.dst s.yv) (s.readByte (addrOf m.src s.xv))
    x := stepIndex s.x8 s.x m.delta
    y := stepIndex s.x8 s.y m.delta
    a := s.a - 1
    pc := if s.a = 0x0000 then s.pc + 3 else s.pc
    cyc := s.cyc + s.costOf m.instr }

/-! ### One step -/

theorem handlerOf_instr : handlerOf m.instr.op = blockMove m.delta := by
  cases h : m.down <;> simp only [instr, delta, h] <;> rfl

theorem operand_instr : m.instr.operand = .immw (wordOf m.src m.dst) := by
  cases h : m.down <;> simp only [instr, h] <;> rfl

theorem opcode_instr : m.instr.opcode = if m.down then 0x44 else 0x54 := by
  cases h : m.down <;> simp only [instr, h] <;> rfl

/-- The counter test on the decremented A is a test on A. -/
theorem pc_of_counter (a pc : Word) :
    (if a - 1 = 0xFFFF then pc + 1 + 2 else pc + 1 + 2 - 3) = if a = 0x0000 then pc + 3 else pc := by
  have hpc : pc + 1 + 2 = pc + 3 := by bv_omega
  have ha : a - 1 = 0xFFFF ↔ a = 0x0000 := by bv_omega
  simp only [hpc, ha, BitVec.add_sub_cancel]

theorem exec_instr : exec m.instr s = .next (m.moveByte s) := by
  have hvalue : ∀ ea, s.operandValue false m.instr.operand ea = wordOf m.src m.dst := by
    intro ea
    rw [operand_instr, State.operandValue, clip_false]
  have hpc : (s.advance m.instr.op m.instr.operand).pc = s.pc + 1 + 2 := by
    rw [operand_instr]
    rfl
  rw [exec_eq_next, handlerOf_instr]
  simp only [blockMove, State.advance_operandValue, hvalue, lo_wordOf, hi_wordOf, hpc, State.advance_a, pc_of_counter]
  rfl

theorem moveByte_stored :
    Stored true (addrOf m.dst s.yv) (zext (s.readByte (addrOf m.src s.xv))) s (m.moveByte s) := by
  refine State.stored_of_mem (s.writeSized_stored true _ _) rfl ?_ rfl rfl
  rw [State.writeSized_mem_true, lo_zext]
  rfl

/-- An index register after one byte, as a number at its width. -/
theorem stepIndex_delta_toNat (narrow : Bool) (v : Word) :
    let w := if narrow then 8 else 16
    (stepIndex narrow v m.delta).toNat = (v.toNat + if m.down then 2 ^ w - 1 else 1) % 2 ^ w := by
  rw [stepIndex, clip_toNat, BitVec.toNat_add]
  cases narrow <;> cases h : m.down <;> simp [delta, h]
  case true.true => omega

theorem moveByte_keepsParts : KeepsParts [.a, .x, .y, .dbr, .mem, .pc, .cyc] s (m.moveByte s) := .of_restore rfl

/-! ### The move after its first byte -/

theorem moved_eq (narrow : Bool) (v : Word) (k : Nat) :
    m.moved narrow v k = clip narrow (v + BitVec.ofNat 16 k * m.delta) := by
  cases h : m.down with
  | false => simp [moved, delta, h]
  | true => rw [moved, delta, if_pos h, if_pos h, mul_neg_one, sub_eq_add_neg]

theorem moved_zero (narrow : Bool) (v : Word) : m.moved narrow v 0 = clip narrow v := by simp [moved_eq]

theorem moved_one (narrow : Bool) (v : Word) : m.moved narrow v 1 = stepIndex narrow v m.delta := by
  simp [moved_eq, stepIndex]

/-- `k` bytes after the first are `k + 1` bytes. -/
theorem moved_stepIndex (narrow : Bool) (v : Word) (k : Nat) :
    m.moved narrow (stepIndex narrow v m.delta) k = m.moved narrow v (k + 1) := by
  have hone : BitVec.ofNat 16 1 * m.delta = m.delta := one_mul _
  rw [moved_eq, moved_eq, stepIndex, clip_clip_add, BitVec.ofNat_add, add_mul, hone, add_assoc, add_comm m.delta]

theorem source_zero : m.source s 0 = addrOf m.src s.xv := congrArg (addrOf m.src) (m.moved_zero s.x8 s.x)

theorem dest_zero : m.dest s 0 = addrOf m.dst s.yv := congrArg (addrOf m.dst) (m.moved_zero s.x8 s.y)

theorem source_moveByte (k : Nat) : m.source (m.moveByte s) k = m.source s (k + 1) :=
  congrArg (addrOf m.src) (m.moved_stepIndex s.x8 s.x k)

theorem dest_moveByte (k : Nat) : m.dest (m.moveByte s) k = m.dest s (k + 1) :=
  congrArg (addrOf m.dst) (m.moved_stepIndex s.x8 s.y k)

variable {s}

theorem moveByte_readByte_other {a : Addr} (h : s.cfg.index a ≠ s.cfg.index (m.dest s 0)) :
    (m.moveByte s).readByte a = s.readByte a := by
  rw [dest_zero] at h
  exact Config.readByte_writeByte_other _ _ _ _ _ h

theorem moveByte_readByte_dest (h : s.cfg.index (m.dest s 0) < s.cfg.ramSize) :
    (m.moveByte s).readByte (m.dest s 0) = s.readByte (m.source s 0) := by
  rw [dest_zero] at h ⊢
  rw [source_zero]
  exact Config.readByte_writeByte_same _ _ _ _ _ h rfl

/-! ### The bytes of a whole move -/

/-- From `s` to `t` memory changed as `n` bytes moved change it: bytes outside the destination are as before, and each byte arrives
that no earlier one changed at its source and no later one overwrites. -/
structure BytesMoved (n : Nat) (s t : State) : Prop where
  kept : ∀ a, (∀ k < n, s.cfg.index a ≠ s.cfg.index (m.dest s k)) → t.readByte a = s.readByte a
  arrived : ∀ k < n, s.cfg.index (m.dest s k) < s.cfg.ramSize →
    (∀ j < k, s.cfg.index (m.dest s j) ≠ s.cfg.index (m.source s k)) →
    (∀ j < n, k < j → s.cfg.index (m.dest s j) ≠ s.cfg.index (m.dest s k)) →
    t.readByte (m.dest s k) = s.readByte (m.source s k)

theorem bytesMoved_zero (s : State) : m.BytesMoved 0 s s := ⟨fun _ _ => rfl, fun _ hk => absurd hk (Nat.not_lt_zero _)⟩

variable {m}

/-- The first byte of a move arrives where the rest of it leaves it alone, and the rest reads its sources in what the first one
left. -/
theorem BytesMoved.cons {n : Nat} {t : State} (h : m.BytesMoved n (m.moveByte s) t) : m.BytesMoved (n + 1) s t := by
  have hkept : ∀ a, (∀ k < n, s.cfg.index a ≠ s.cfg.index (m.dest s (k + 1))) → t.readByte a = (m.moveByte s).readByte a := by
    intro a ha
    exact h.kept a fun k hk => by rw [dest_moveByte]; exact ha k hk
  refine ⟨fun a ha => ?_, fun k hk hram hsource hlater => ?_⟩
  · rw [hkept a fun k hk => ha (k + 1) (Nat.succ_lt_succ hk)]
    exact m.moveByte_readByte_other (ha 0 (Nat.succ_pos n))
  · cases k with
    | zero =>
      rw [hkept _ fun k hk => (hlater (k + 1) (Nat.succ_lt_succ hk) (Nat.succ_pos k)).symm]
      exact m.moveByte_readByte_dest hram
    | succ k =>
      have hrest := h.arrived k (Nat.lt_of_succ_lt_succ hk)
      simp only [dest_moveByte, source_moveByte] at hrest
      rw [hrest hram (fun j hj => hsource (j + 1) (Nat.succ_lt_succ hj))
        fun j hj hkj => hlater (j + 1) (Nat.succ_lt_succ hj) (Nat.succ_lt_succ hkj)]
      exact m.moveByte_readByte_other (hsource 0 (Nat.succ_pos k)).symm

/-! ### A whole move -/

/-- The machine runs, and the move's instruction is at PC. -/
structure Ready (m : BlockMove) (s : State) : Prop where
  wf : s.cfg.wf = true
  host : s.host = []
  running : s.halted = false
  opcode : s.readByte s.opcodeAddr = if m.down then 0x44 else 0x54
  dst : s.readByte s.operandAddr = m.dst
  src : s.readByte (s.operandAddr + 1) = m.src

/-- None of `n` bytes moved goes to one of the instruction's own (R75). -/
def Spares (m : BlockMove) (n : Nat) (s : State) : Prop :=
  ∀ k < n, s.cfg.index (m.dest s k) ≠ s.cfg.index s.opcodeAddr ∧ s.cfg.index (m.dest s k) ≠ s.cfg.index s.operandAddr ∧
    s.cfg.index (m.dest s k) ≠ s.cfg.index (s.operandAddr + 1)

theorem Ready.fetchInstr (h : m.Ready s) : s.fetchInstr = m.instr := by
  rw [State.fetchInstr, h.opcode, h.dst, h.src, ← m.opcode_instr]
  refine decodeBytes_eq_of_read ?_
  rw [m.operand_instr]
  rfl

theorem Ready.step_eq (h : m.Ready s) : step s = .next (m.moveByte s) := by
  have hhost := State.hostBoundary_nil h.host
  rw [step_of_running h.wf (by rw [hhost]; exact h.running), hhost, h.fetchInstr]
  exact m.exec_instr s

theorem Ready.run_succ (h : m.Ready s) (n : Nat) : Sys2Proof.core.run (n + 1) s = Sys2Proof.core.run n (m.moveByte s) :=
  run_succ_of_step (M := Sys2Proof.core) h.step_eq n

/-- Where the counter was not 0, the instruction is at PC again. -/
theorem Ready.moveByte {n : Nat} (h : m.Ready s) (ha : s.a ≠ 0x0000) (hs : m.Spares (n + 1) s) :
    m.Ready (m.moveByte s) ∧ m.Spares n (m.moveByte s) := by
  have hpc : (m.moveByte s).pc = s.pc := if_neg ha
  have hop : (m.moveByte s).opcodeAddr = s.opcodeAddr := congrArg (addrOf s.pbr) hpc
  have hoperand : (m.moveByte s).operandAddr = s.operandAddr := congrArg (fun pc => addrOf s.pbr (pc + 1)) hpc
  obtain ⟨h0, h1, h2⟩ := hs 0 (Nat.succ_pos n)
  refine ⟨⟨h.wf, h.host, h.running, ?_, ?_, ?_⟩, fun k hk => ?_⟩
  · rw [hop, m.moveByte_readByte_other h0.symm, h.opcode]
  · rw [hoperand, m.moveByte_readByte_other h1.symm, h.dst]
  · rw [hoperand, m.moveByte_readByte_other h2.symm, h.src]
  · rw [hop, hoperand, dest_moveByte]
    exact hs (k + 1) (Nat.succ_lt_succ hk)

/-- What a move of `n` bytes from `s` on leaves at its end. -/
structure Done (m : BlockMove) (n : Nat) (s t : State) : Prop where
  a : t.a = 0xFFFF
  x : t.x = m.moved s.x8 s.x n
  y : t.y = m.moved s.x8 s.y n
  dbr : t.dbr = m.dst
  pc : t.pc = s.pc + 3
  cyc : t.cyc = s.cyc + n * s.costOf m.instr
  bytes : m.BytesMoved n s t
  frame : KeepsParts [.a, .x, .y, .dbr, .mem, .pc, .cyc] s t

/-- The last byte. -/
theorem done_moveByte (ha : s.a = 0x0000) : m.Done 1 s (m.moveByte s) where
  a := by rw [moveByte, ha]; rfl
  x := (m.moved_one s.x8 s.x).symm
  y := (m.moved_one s.x8 s.y).symm
  dbr := rfl
  pc := if_pos ha
  cyc := by rw [Nat.one_mul]; rfl
  bytes := (m.bytesMoved_zero _).cons
  frame := m.moveByte_keepsParts s

/-- One byte more at the front. -/
theorem Done.cons {n : Nat} {t : State} (ha : s.a ≠ 0x0000) (h : m.Done n (m.moveByte s) t) : m.Done (n + 1) s t where
  a := h.a
  x := h.x.trans (m.moved_stepIndex s.x8 s.x n)
  y := h.y.trans (m.moved_stepIndex s.x8 s.y n)
  dbr := h.dbr
  pc := h.pc.trans (congrArg (· + 3) (if_neg ha))
  cyc := by
    have hcyc : t.cyc = s.cyc + s.costOf m.instr + n * s.costOf m.instr := h.cyc
    rw [hcyc, Nat.succ_mul]
    omega
  bytes := h.bytes.cons
  frame r hr := (m.moveByte_keepsParts s r hr).trans (h.frame r hr)

/-- By induction on the counter: each step leaves the same move with one byte fewer. -/
theorem exists_run_done {c : Nat} (hc : s.a.toNat = c) (h : m.Ready s) (hs : m.Spares (c + 1) s) :
    ∃ t, Sys2Proof.core.run (c + 1) s = .next t ∧ m.Done (c + 1) s t := by
  induction c generalizing s with
  | zero => exact ⟨_, h.run_succ 0, done_moveByte (BitVec.eq_of_toNat_eq hc)⟩
  | succ c ih =>
    have ha : s.a ≠ 0x0000 := fun e => by simp [e] at hc
    have hcount : (m.moveByte s).a.toNat = c := by
      have hdec : (m.moveByte s).a = s.a - 1 := rfl
      bv_omega
    obtain ⟨hready, hspares⟩ := h.moveByte ha hs
    obtain ⟨t, hrun, hdone⟩ := ih hcount hready hspares
    exact ⟨t, (h.run_succ (c + 1)).trans hrun, hdone.cons ha⟩

end BlockMove

/-- Settles O48: the step is `moveByte`, its registers read as numbers. -/
theorem blockMoveMovesOneByte : Obligations.BlockMoveMovesOneByte := by
  intro down dst src s
  let m : BlockMove := ⟨down, dst, src⟩
  have ha : (s.a - 1).toNat = (s.a.toNat + 2 ^ 16 - 1) % 2 ^ 16 := by bv_omega
  exact ⟨m.moveByte s, m.exec_instr s, m.moveByte_stored s, rfl,
    ⟨m.stepIndex_delta_toNat s.x8 s.x, m.stepIndex_delta_toNat s.x8 s.y⟩, ha, rfl, rfl,
    (m.moveByte_keepsParts s).restore_eq⟩

/-- Settles O49: the statement's addresses are the `source` and `dest` of the move. -/
theorem blockMoveRunsToTheEnd : Obligations.BlockMoveRunsToTheEnd := by
  intro down dst src s hwf hhost hrunning hopcode hdst hsrc n moved from_ to_ hspares
  let m : BlockMove := ⟨down, dst, src⟩
  obtain ⟨t, hrun, hdone⟩ := BlockMove.exists_run_done (m := m) rfl ⟨hwf, hhost, hrunning, hopcode, hdst, hsrc⟩ hspares
  exact ⟨t, hrun, hdone.a, hdone.x, hdone.y, hdone.dbr, hdone.pc, hdone.cyc, hdone.bytes.kept, hdone.bytes.arrived,
    hdone.frame.restore_eq⟩

end Sys2Proof.Machine
end

section
/-! Mode control and flags (spec/48_mode_control_flags.md R287 to R295): XCE, and the instructions that write one flag. -/

namespace Sys2Proof.Machine

/-! ### XCE (R287) -/

/-- The registers after XCE: cut to the emulation mode's form where C put 1 in E. -/
theorem xce_registers (o : Operand) (ea : Addr) (s : State) :
    (xce o ea s).x = clip (s.flag .c) s.x ∧ (xce o ea s).y = clip (s.flag .c) s.y ∧
    (xce o ea s).sp = if s.flag .c then wordOf 0x01 (lo s.sp) else s.sp := ⟨rfl, rfl, rfl⟩

/-- Settles O50: E is the old C, so the two cases are the two values of C. -/
theorem xceExchangesCarryAndE : Obligations.XceExchangesCarryAndE := by
  intro s
  have h := exec_eq_next .xce s
  obtain ⟨hadv, hmem, hframe⟩ := exec_frame h (ps := [.p, .e, .x, .y, .sp]) rfl (by decide)
  obtain ⟨hx, hy, hsp⟩ := xce_registers .impl (s.eaOf .xce) (s.advance .xce .impl)
  have he := xce_e .impl (s.eaOf .xce) (s.advance .xce .impl)
  have hflag := flag_xce .impl (s.eaOf .xce) (s.advance .xce .impl)
  rw [State.advance_flag] at hx hy hsp he
  refine ⟨_, h, hadv, he, hflag .c, fun hte => ?_, fun hte => ?_, exec_keepsFlags h, hmem, hframe⟩
  · have hc : s.flag .c = true := he.symm.trans hte
    rw [hc] at hx hy hsp
    simp only [State.advance_flag, hc] at hflag
    exact ⟨hflag .m, hflag .x, hx, hy, hsp ▸ hi_wordOf _ _, hsp ▸ lo_wordOf _ _⟩
  · have hc : s.flag .c = false := he.symm.trans hte
    rw [hc] at hx hy hsp
    simp only [State.advance_flag, hc] at hflag
    exact ⟨hflag .m, hflag .x, hx, hy, hsp⟩

/-! ### One flag, or none (R288 to R295) -/

/-- An instruction whose handler sets one flag leaves that flag at its value, and the others as before. -/
theorem exec_setFlag {i : Instr} {f : Flag} {b : Bool} (hhandler : handlerOf i.op = fun _ _ s => s.setFlag f b) {s t : State}
    (h : exec i s = .next t) : t.flag f = b ∧ KeepsFlags [f] s t := by
  have hconsumed : KeepsFlags [] s (s.advance i.op i.operand) := keepsFlags_of_p (s.advance_p _ _)
  rw [eq_of_exec h, hhandler]
  exact ⟨State.flag_setFlag_same _ f b, hconsumed.trans (State.setFlag_keepsFlags _ f b)⟩

/-- The single-flag instructions in the tables of what is written. -/
theorem footprint_singleFlag {op : Op} (hop : op ∈ [.clc, .sec, .cli, .sei, .cld, .sed, .clv, .nop]) :
    .pc ∉ footprint op ∧ .cyc ∉ footprint op ∧ .mem ∉ stepFootprint op ∧ stepFootprint op ⊆ [.p, .pc, .cyc] := by
  revert hop
  cases op <;> decide

/-- Settles O51: the handler is one flag set to 0 or 1, for NOP nothing. -/
theorem singleFlagInstructions : Obligations.SingleFlagInstructions := by
  intro i s hop
  obtain ⟨t, h⟩ : ∃ t, exec i s = .next t := ⟨_, exec_eq_next i s⟩
  obtain ⟨hpc, hcyc, hmem, hparts⟩ := footprint_singleFlag hop
  refine ⟨_, h, advanced_of_exec h hpc hcyc, ?clc, ?sec, ?cli, ?sei, ?cld, ?sed, ?clv, ?nop, keepsMemory_of_exec h hmem,
    ((exec_keepsParts h).mono hparts).restore_eq⟩
  case nop => exact fun e => exec_keepsParts h .p (by rw [e]; decide)
  all_goals exact fun e => exec_setFlag (by rw [e]; rfl) h

end Sys2Proof.Machine
end

section
/-! Jumps, calls and returns (spec/49_control_special.md R305 to R309): a call is its return address pushed and the target, and
the return pulls what the call pushed. -/

namespace Sys2Proof.Machine

/-- An instruction's handler that does not write CYC leaves its cost added. -/
theorem cyc_of_exec {i : Instr} {s t : State} (h : exec i s = .next t) (hcyc : .cyc ∉ footprint i.op) :
    t.cyc = s.cyc + s.costOf i := by
  rw [eq_of_exec h]
  exact handlerOf_keepsParts _ _ _ _ .cyc hcyc

/-- What an instruction answers is one state. -/
theorem exec_unique {i : Instr} {s t u : State} (ht : exec i s = .next t) (hu : exec i s = .next u) : u = t :=
  Host.Outcome.next.inj (hu.symm.trans ht)

/-! ### Jumps (R305) -/

/-- Settles O52: the handler is the target with its bank in the long forms, and what it leaves alone is in the tables. -/
theorem jumpsGoToTheTarget : Obligations.JumpsGoToTheTarget := by
  intro i s hop
  have h := exec_eq_next i s
  have hf : footprint i.op = [.pc, .pbr] := by rw [hop]; rfl
  have hframe := (exec_keepsParts h).restore_eq
  rw [stepFootprint, hf] at hframe
  refine ⟨_, h, ?_, ?_, cyc_of_exec h (by rw [hf]; decide), keepsMemory_of_exec h (by rw [stepFootprint, hf]; decide), hframe⟩
  · rw [hop]
    rfl
  · rw [hop]
    exact (jmp_pbr ..).trans (if_congr (by simp) rfl rfl)

/-! ### Calls (R306, R307) -/

/-- PC after an instruction of mnemonic `op` is consumed. -/
theorem advance_pc_of_op {i : Instr} {op : Op} (hop : i.op = op) (s : State) : (s.advance op i.operand).pc = s.nextPc i :=
  hop ▸ s.advance_nextPc i

theorem jsr_pushed (o : Operand) (ea : Addr) (s : State) : Pushed [hi (s.pc - 1), lo (s.pc - 1)] s (jsr o ea s) :=
  State.pushed_of_mem (s.push16_pushed (s.pc - 1)) rfl rfl rfl rfl rfl rfl rfl

/-- JSL pushes the bank first (decision D16). -/
theorem jsl_pushed (o : Operand) (ea : Addr) (s : State) :
    Pushed [s.pbr, hi (s.pc - 1), lo (s.pc - 1)] s (jsl o ea s) :=
  have hbank := s.push8_pushed s.pbr
  have hhigh := State.pushed_push8 hbank rfl rfl (hi (s.pc - 1))
  have hlow := State.pushed_push8 hhigh rfl rfl (lo (s.pc - 1))
  State.pushed_of_mem hlow rfl rfl rfl rfl rfl rfl rfl

/-- Settles O53: each handler is its bytes pushed, with PC at the next instruction, and then the target. -/
theorem callsPushTheReturnAddress : Obligations.CallsPushTheReturnAddress := by
  intro i s hop
  have h := exec_eq_next i s
  have hf : .cyc ∉ footprint i.op ∧ stepFootprint i.op ⊆ [.sp, .pbr, .mem, .pc, .cyc] := by
    rcases hop with e | e <;> rw [e] <;> decide
  obtain ⟨hcyc, hparts⟩ := hf
  refine ⟨_, h, ?_, fun hjsr => ⟨?_, ?_⟩, fun hjsl => ⟨?_, ?_⟩, cyc_of_exec h hcyc,
    ((exec_keepsParts h).mono hparts).restore_eq⟩
  · rcases hop with e | e <;> rw [e] <;> rfl
  · exact exec_keepsParts h .pbr (by rw [hjsr]; decide)
  · rw [← advance_pc_of_op hjsr s]
    exact pushed_of_exec h hjsr (jsr_pushed i.operand (s.eaOf i) _)
  · rw [hjsl]
    rfl
  · rw [← advance_pc_of_op hjsl s]
    exact pushed_of_exec h hjsl (jsl_pushed i.operand (s.eaOf i) _)

/-! ### Returns (R308, R309) -/

theorem rts_eq (o : Operand) (ea : Addr) (s : State) :
    rts o ea s = { s with sp := s.pulledSp 2, pc := s.pulledValue false + 1 } := rfl

theorem rtl_eq (o : Operand) (ea : Addr) (s : State) :
    rtl o ea s = { s with sp := s.pulledSp 3, pc := s.pulledValue false + 1, pbr := s.pulledByte 2 } := rfl

/-- Settles O54: each handler is its equation, and what it leaves alone is in the tables. -/
theorem returnsPullTheReturnAddress : Obligations.ReturnsPullTheReturnAddress := by
  intro i s hop
  have h := exec_eq_next i s
  have hf : .cyc ∉ footprint i.op ∧ .mem ∉ stepFootprint i.op ∧ stepFootprint i.op ⊆ [.sp, .pbr, .pc, .cyc] := by
    rcases hop with e | e <;> rw [e] <;> decide
  obtain ⟨hcyc, hmem, hparts⟩ := hf
  refine ⟨_, h, ?_, fun hrts => ?_, fun hrtl => ?_, cyc_of_exec h hcyc, keepsMemory_of_exec h hmem,
    ((exec_keepsParts h).mono hparts).restore_eq⟩
  · rcases hop with hrts | hrtl
    · rw [hrts, handlerOf, rts_eq]
      rfl
    · rw [hrtl, handlerOf, rtl_eq]
      rfl
  · rw [hrts, handlerOf, rts_eq]
    exact ⟨rfl, s.advance_pulledSp _ _ _⟩
  · rw [hrtl, handlerOf, rtl_eq]
    exact ⟨rfl, s.advance_pulledSp _ _ _⟩

/-! ### A call and its return -/

/-- The word whose two bytes were pushed last is the one pulled. -/
theorem State.pulledValue_of_pushed {bytes : List Byte} {v : Word} {s t : State}
    (h : Pushed (bytes ++ [hi v, lo v]) s t) (he : t.e = s.e) (hram : s.slotsInRam (bytes.length + 2)) :
    t.pulledValue false = v := by
  have hlen : (bytes ++ [hi v, lo v]).length = bytes.length + 2 := List.length_append
  have hlow : t.pulledByte 0 = lo v := pulledByte_of_pushed h he (hlen ▸ hram) (j := bytes.length + 1) (by simp) hlen.symm
  have hhigh : t.pulledByte 1 = hi v := pulledByte_of_pushed h he (hlen ▸ hram) (j := bytes.length) (by simp) hlen.symm
  have hvalue : t.pulledValue false = wordOf (t.pulledByte 1) (t.pulledByte 0) := rfl
  rw [hvalue, hlow, hhigh, wordOf_hi_lo]

/-- Settles O55: the return pulls the bytes the call pushed, in reverse. -/
theorem callThenReturn : Obligations.CallThenReturn := by
  refine ⟨fun i s t u hop hram hcall hreturn => ?_, fun i s t u hop hram hcall hreturn => ?_⟩
  · have he : t.e = s.e := exec_keepsParts hcall .e (by rw [hop]; decide)
    obtain ⟨t', ht, -, hjsr, -⟩ := callsPushTheReturnAddress i s (.inl hop)
    obtain ⟨u', hu, hpc, hrts, -⟩ := returnsPullTheReturnAddress .rts t (.inl rfl)
    obtain rfl := exec_unique ht hcall
    obtain rfl := exec_unique hu hreturn
    obtain ⟨hbank, hpushed⟩ := hjsr hop
    obtain ⟨hpbr, hsp⟩ := hrts rfl
    refine ⟨?_, hpbr.trans hbank, hsp.trans (State.pulledSp_of_pushed hpushed he)⟩
    rw [hpc, State.pulledValue_of_pushed (bytes := []) hpushed he hram, BitVec.sub_add_cancel]
  · have he : t.e = s.e := exec_keepsParts hcall .e (by rw [hop]; decide)
    obtain ⟨t', ht, -, -, hjsl, -⟩ := callsPushTheReturnAddress i s (.inr hop)
    obtain ⟨u', hu, hpc, -, hrtl, -⟩ := returnsPullTheReturnAddress .rtl t (.inr rfl)
    obtain rfl := exec_unique ht hcall
    obtain rfl := exec_unique hu hreturn
    obtain ⟨-, hpushed⟩ := hjsl hop
    obtain ⟨hpbr, hsp⟩ := hrtl rfl
    refine ⟨?_, hpbr.trans (State.pulledByte_of_pushed hpushed he hram (j := 0) rfl rfl),
      hsp.trans (State.pulledSp_of_pushed hpushed he)⟩
    rw [hpc, State.pulledValue_of_pushed (bytes := [s.pbr]) hpushed he hram, BitVec.sub_add_cancel]

end Sys2Proof.Machine
end

section
/-! What every instruction does with CYC, CFG, INTSIG and the host's actions, and so where a run can stop
(spec/60_exceptions.md R331, R344, R345, spec/70_reset_and_hazards.md R360 to R362, R370 to R372). -/

namespace Sys2Proof.Machine

/-! ### Reset and the host (R345, R360) -/

/-- The two bytes of the reset vector (R360). -/
theorem State.hostReset_pc (s : State) :
    lo s.hostReset.pc = s.readByte 0x00FFFC ∧ hi s.hostReset.pc = s.readByte 0x00FFFD :=
  ⟨lo_wordOf _ _, hi_wordOf _ _⟩

/-- Settles O12: every field is what the operation puts there, or was there. -/
theorem resetOperation : Obligations.ResetOperation := by
  intro s
  obtain ⟨hlo, hhi⟩ := s.hostReset_pc
  exact ⟨rfl, rfl, rfl, rfl, rfl, rfl, hi_zext _, lo_zext _, hi_zext _, lo_zext _, rfl, rfl, hlo, hhi, rfl,
    State.keepsMemory_of_mem rfl rfl, rfl, rfl, rfl, rfl⟩

/-- Settles O11: reset neither reads nor writes INTSIG and the pending actions. -/
theorem hostActionAtTheBoundary : Obligations.HostActionAtTheBoundary := by
  intro s h rest hhost
  refine ⟨fun hr => ?_, fun hr => ?_⟩
  · rw [State.hostBoundary, hhost]
    simp only [hr, Bool.false_eq_true, if_false]
  · rw [State.hostBoundary, hhost]
    simp only [hr, if_true]
    rfl

/-! ### Steps and runs (R331, R344) -/

/-- A step from a boundary with HALTED = 0 answers a next state. -/
theorem exists_step_of_running {s : State} (hc : s.cfg.wf = true) (hh : s.hostBoundary.halted = false) :
    ∃ t, step s = .next t := ⟨_, (step_of_running hc hh).trans (exec_eq_next _ _)⟩

/-- Settles O9: with nothing pending the boundary leaves the state as it is. -/
theorem stepAlwaysCompletes : Obligations.StepAlwaysCompletes := by
  intro s hc hhost hh
  exact exists_step_of_running hc (by rw [State.hostBoundary_nil hhost, hh])

/-- Settles O10: HALTED is 1 at the boundary unless the host resets there, and the reset operation leaves 0. -/
theorem haltedEndsTheRunUntilReset : Obligations.HaltedEndsTheRunUntilReset := by
  intro s hc hh
  refine ⟨fun hhost => ?_, fun level rest hhost => ?_, fun level rest hhost => ?_⟩
  · exact step_of_halted hc (by rw [State.hostBoundary_nil hhost, hh])
  · have hb := (hostActionAtTheBoundary s _ rest hhost).1 rfl
    exact step_of_halted hc (by rw [hb]; exact hh)
  · intro b
    have hb : s.hostBoundary = b := (hostActionAtTheBoundary s _ rest hhost).2 rfl
    have hrun : s.hostBoundary.halted = false := congrArg State.halted hb
    obtain ⟨hlo, hhi⟩ := s.hostReset_pc
    refine ⟨rfl, rfl, hlo, hhi, fun i more hdecode => ?_, exists_step_of_running hc hrun⟩
    rw [step_of_running hc hrun, hb, State.fetchInstr_of_decode hdecode]

/-- Settles O14: a run either meets HALTED = 1 at its first boundary, or takes a step, which keeps the configuration, and goes
on from there. -/
theorem runsStopOnlyWhenHalted : Obligations.RunsStopOnlyWhenHalted := by
  intro n
  induction n with
  | zero => exact fun s _ => .inl trivial
  | succ n ih =>
    intro s hc
    cases hh : s.hostBoundary.halted with
    | true => exact .inr ⟨0, s, n.succ_pos, rfl, hh⟩
    | false =>
      obtain ⟨t, hstep⟩ := exists_step_of_running hc hh
      have htc : t.cfg.wf = true := by rw [(stepKeepsConfigurationAndRom s t hstep).1, hc]
      rcases ih t htc with hsafe | ⟨k, u, hk, hrun, hu⟩
      · exact .inl ⟨t, hstep, hsafe⟩
      · exact .inr ⟨k + 1, u, Nat.succ_lt_succ hk, (run_succ_of_step hstep k).trans hrun, hu⟩

/-! ### Cycles (R370 to R372) -/

/-- HCOST is at least 1 (R371). -/
theorem Config.one_le_handlerCost (c : Config) (k : CostKey) : 1 ≤ c.handlerCost k := Nat.le_add_right 1 _

/-- The handlers that write CYC are those of the 8-bit relative branches (R372). -/
theorem cyc_not_mem_footprint {op : Op} (hop : op ∉ [.bcc, .bcs, .beq, .bne, .bmi, .bpl, .bvc, .bvs, .bra]) :
    .cyc ∉ footprint op := by
  revert hop
  cases op <;> decide

theorem le_branch_cyc (cond : State → Bool) (o : Operand) (ea : Addr) (s : State) : s.cyc ≤ (branch cond o ea s).cyc := by
  cases h : cond s with
  | true =>
    rw [branch_of_taken h]
    exact Nat.le_add_right _ _
  | false => rw [branch_of_not_taken h]

/-- No handler takes cycles back. -/
theorem le_handlerOf_cyc (op : Op) (o : Operand) (ea : Addr) (s : State) : s.cyc ≤ (handlerOf op o ea s).cyc := by
  by_cases hop : op ∈ [.bcc, .bcs, .beq, .bne, .bmi, .bpl, .bvc, .bvs, .bra]
  · rw [handlerOf_relativeBranch hop]
    exact le_branch_cyc _ o ea s
  · exact Nat.le_of_eq (handlerOf_keepsParts op o ea s .cyc (cyc_not_mem_footprint hop)).symm

/-- Consuming an instruction costs at least HCOST. -/
theorem State.cyc_lt_advance (s : State) (op : Op) (o : Operand) : s.cyc < (s.advance op o).cyc := by
  have hcost := Config.one_le_handlerCost s.cfg ⟨op, o.mode, s.m8, s.x8, s.e⟩
  rw [State.advance_cyc, State.instrCost]
  omega

theorem inputs_not_mem_stepFootprint (op : Op) :
    .cfg ∉ stepFootprint op ∧ .intsig ∉ stepFootprint op ∧ .host ∉ stepFootprint op := by
  cases op <;> decide

/-- Settles O18: consuming the instruction makes CYC grow, no handler takes it back, and no handler writes an input. -/
theorem everyInstructionCompletes : Obligations.EveryInstructionCompletes := by
  intro i s
  have h := exec_eq_next i s
  obtain ⟨hcfg, hintsig, hhost⟩ := inputs_not_mem_stepFootprint i.op
  exact ⟨_, h, (s.cyc_lt_advance _ _).trans_le (le_handlerOf_cyc _ _ _ _), exec_keepsParts h .cfg hcfg,
    exec_keepsParts h .intsig hintsig, exec_keepsParts h .host hhost⟩

/-- Settles O19: the consumed instruction adds its mode's cost and HCOST, and its handler nothing. -/
theorem cyclesOfAnInstruction : Obligations.CyclesOfAnInstruction := by
  intro i s hop
  have h := exec_eq_next i s
  have hcyc := (cyc_of_exec h (cyc_not_mem_footprint hop)).trans (Nat.add_assoc ..).symm
  refine ⟨_, modeCycles s.m8 s.x8 i.operand.mode, _, h, hcyc, Config.one_le_handlerCost _ _, rfl, ?_⟩
  generalize i.operand.mode = m
  cases m with
  | immm => cases s.m8 <;> simp [modeCycles, accessSize]
  | immx => cases s.x8 <;> simp [modeCycles, accessSize]
  | _ => simp [modeCycles]

end Sys2Proof.Machine
end

section
/-! Software interrupts and the return from one (spec/49_control_special.md R310 to R312, spec/60_exceptions.md R332 to R334). -/

namespace Sys2Proof.Machine

/-! ### The length of an instruction whose mnemonic has one mode -/

/-- What the opcode map says of the mode of a mnemonic. -/
theorem mode_of_op {ops : List Op} {m : Mode} (hmap : ∀ row ∈ opcodeMap, ∀ e ∈ row, e.1 ∈ ops → e.2 = m) {i : Instr}
    (hop : i.op ∈ ops) : i.operand.mode = m := by
  obtain ⟨row, _, _, hrow, hentry, -⟩ := opcodeEntry_eq_some_iff.mp (opcodeEntry_opcode i)
  exact hmap row (List.mem_of_getElem? hrow) _ (List.mem_of_getElem? hentry) hop

theorem State.nextPc_of_mode {i : Instr} {m : Mode} (hm : i.operand.mode = m) (s : State) :
    s.nextPc i = s.pc + BitVec.ofNat 16 (1 + m.operandBytes s.m8 s.x8) := hm ▸ rfl

/-! ### Entry (R333) -/

/-- The cause that BRK and COP raise. -/
def causeOf (op : Op) : SoftInterrupt := if op = .brk then .brk else .cop

theorem handlerOf_softInterrupt {op : Op} (hop : op = .brk ∨ op = .cop) (o : Operand) (ea : Addr) (s : State) :
    handlerOf op o ea s = s.takeInterrupt (causeOf op) := by
  rcases hop with rfl | rfl <;> rfl

theorem footprint_softInterrupt {op : Op} (hop : op = .brk ∨ op = .cop) :
    footprint op = [.mem, .sp, .p, .pc, .pbr] ∧ flagsWritten op = [.i, .d] := by
  rcases hop with rfl | rfl <;> exact ⟨rfl, rfl⟩

/-- BRK and COP are two bytes long, the second the signature byte. -/
theorem nextPc_softInterrupt {i : Instr} (hop : i.op = .brk ∨ i.op = .cop) (s : State) : s.nextPc i = s.pc + 2 :=
  s.nextPc_of_mode (mode_of_op (ops := [.brk, .cop]) (m := .immb) (by decide) (by simpa using hop))

/-- The addresses of the vectors (R332). -/
theorem addrOf_vector_causeOf {op : Op} (hop : op = .brk ∨ op = .cop) (e : Bool) :
    addrOf 0x00 ((causeOf op).vector e) =
      if op = .brk then (if e then 0x00FFFE else 0x00FFE6) else (if e then 0x00FFF4 else 0x00FFE4) := by
  rcases hop with rfl | rfl <;> cases e <;> rfl

theorem State.flag_takeInterrupt (s : State) (k : SoftInterrupt) :
    (s.takeInterrupt k).flag .i = true ∧ (s.takeInterrupt k).flag .d = false :=
  ⟨((s.pushFrame.setFlag .i true).flag_setFlag_other false (by decide)).trans (s.pushFrame.flag_setFlag_same .i true),
    (s.pushFrame.setFlag .i true).flag_setFlag_same .d false⟩

theorem State.takeInterrupt_pc (s : State) (k : SoftInterrupt) :
    (s.takeInterrupt k).pc = (s.takeInterrupt k).read16 (addrOf 0x00 (k.vector s.e)) := rfl

theorem State.takeInterrupt_pushed (s : State) (k : SoftInterrupt) :
    Pushed ((if s.e then [] else [s.pbr]) ++ [hi s.pc, lo s.pc, s.p]) s (s.takeInterrupt k) :=
  pushed_of_mem s.pushFrame_pushed rfl rfl rfl rfl (s.takeInterrupt_mem k) (s.takeInterrupt_sp k)
    ((s.takeInterrupt_cfg k).trans s.pushFrame_cfg.symm)

theorem exec_softInterrupt {i : Instr} (hop : i.op = .brk ∨ i.op = .cop) (s : State) :
    exec i s = .next ((s.advance i.op i.operand).takeInterrupt (causeOf i.op)) := by
  rw [exec_eq_next, handlerOf_softInterrupt hop]

/-- Settles O56: the entry of the cause, with PC after the signature byte. -/
theorem softwareInterruptsTakeTheirException : Obligations.SoftwareInterruptsTakeTheirException := by
  intro i s hop
  have h := exec_softInterrupt hop s
  obtain ⟨hparts, hflags⟩ := footprint_softInterrupt hop
  obtain ⟨hflagI, hflagD⟩ := (s.advance i.op i.operand).flag_takeInterrupt (causeOf i.op)
  have hpushed := (s.advance i.op i.operand).takeInterrupt_pushed (causeOf i.op)
  have hframe := (exec_keepsParts h).restore_eq
  rw [stepFootprint, hparts] at hframe
  refine ⟨_, h, ?_, hflagI, hflagD, hflags ▸ exec_keepsFlags h, State.takeInterrupt_pbr _ _, ?_,
    cyc_of_exec h (by rw [hparts]; decide), hframe⟩
  · rw [s.advance_nextPc, nextPc_softInterrupt hop] at hpushed
    exact State.pushed_of_mem hpushed rfl rfl rfl rfl rfl rfl rfl
  · rw [← addrOf_vector_causeOf hop]
    exact State.takeInterrupt_pc _ _

/-! ### Return (R312, R334) -/

theorem State.returnFromInterrupt_pc (s : State) :
    s.returnFromInterrupt.pc = wordOf (s.pulledByte 2) (s.pulledByte 1) := rfl

/-- The first byte pulled goes through `SetP`. -/
theorem State.returnFromInterrupt_setsP (s : State) : SetsP (s.pulledByte 0) s s.returnFromInterrupt :=
  s.pull8.2.setP_setsP (s.pulledByte 0)

/-- Settles O57: each register is what the return makes of the bytes pulled from the state with the instruction consumed. -/
theorem rtiRestoresTheContext : Obligations.RtiRestoresTheContext := by
  intro s
  have h := exec_eq_next .rti s
  refine ⟨_, h, State.returnFromInterrupt_setsP (s.advance .rti .impl), State.returnFromInterrupt_pc _,
    State.returnFromInterrupt_pbr _, ?_, cyc_of_exec h (by decide), keepsMemory_of_exec h (by decide),
    (exec_keepsParts h).restore_eq⟩
  exact (State.returnFromInterrupt_sp _).trans (s.advance_pulledSp _ _ _)

/-! ### Entry and return -/

/-- A part that is as before after all is no exception to a frame. -/
theorem KeepsParts.of_cons {r : Part} {ps : List Part} {s t : State} (k : KeepsParts (r :: ps) s t) (h : r.Same s t) :
    KeepsParts ps s t := by
  intro q hq
  by_cases hqr : q = r
  · exact hqr ▸ h
  · exact k q (by simp [hqr, hq])

/-- P is its eight flags (spec/10_state.md R28). -/
theorem p_eq_of_flags {s t : State} (h : ∀ f, t.flag f = s.flag f) : t.p = s.p := by
  refine BitVec.eq_of_getLsbD_eq fun j hj => ?_
  obtain ⟨f, rfl⟩ : ∃ f : Flag, f.bit = j := by
    interval_cases j
    exacts [⟨.c, rfl⟩, ⟨.z, rfl⟩, ⟨.i, rfl⟩, ⟨.d, rfl⟩, ⟨.x, rfl⟩, ⟨.m, rfl⟩, ⟨.v, rfl⟩, ⟨.n, rfl⟩]
  exact h f

/-- `SetP` of the P of a state that meets the invariant gives its P, X and Y back, where E, X and Y are its own. -/
theorem SetsP.restores {s t u : State} (h : SetsP s.p t u) (hs : s.Inv) (he : t.e = s.e) (hx : t.x = s.x) (hy : t.y = s.y) :
    u.p = s.p ∧ u.x = s.x ∧ u.y = s.y := by
  obtain ⟨hforced, -, htruncated, -⟩ := hs
  obtain ⟨hflags, hux, huy⟩ := h
  have hkept : ∀ f, u.flag f = s.flag f := by
    intro f
    rw [hflags, he]
    split_ifs with hf
    · obtain ⟨hse, rfl | rfl⟩ := hf
      · exact (hforced hse).1.symm
      · exact (hforced hse).2.symm
    · rfl
  rw [hux, huy, hkept, hx, hy]
  refine ⟨p_eq_of_flags hkept, ?_⟩
  cases hf : s.flag .x with
  | false => exact ⟨rfl, rfl⟩
  | true =>
    obtain ⟨hhx, hhy⟩ := htruncated (by rw [State.x8, hf, Bool.or_true])
    exact ⟨zext_lo_of_hi hhx, zext_lo_of_hi hhy⟩

/-- The bytes of an entry's frame, as a return pulls them. -/
theorem State.pulledByte_of_frame {v : Word} {s t : State}
    (h : Pushed ((if s.e then [] else [s.pbr]) ++ [hi v, lo v, s.p]) s t) (he : t.e = s.e)
    (hram : s.slotsInRam (if s.e then 3 else 4)) :
    t.pulledByte 0 = s.p ∧ wordOf (t.pulledByte 2) (t.pulledByte 1) = v ∧ (s.e = false → t.pulledByte 3 = s.pbr) ∧
    t.pulledSp (if t.e then 3 else 4) = s.sp := by
  rw [he]
  have hv : ∀ {a b : Byte}, a = hi v → b = lo v → wordOf a b = v := by
    rintro _ _ rfl rfl
    exact wordOf_hi_lo v
  cases hse : s.e with
  | true =>
    rw [hse] at h hram
    exact ⟨pulledByte_of_pushed h he hram (j := 2) rfl rfl,
      hv (pulledByte_of_pushed h he hram (j := 0) rfl rfl) (pulledByte_of_pushed h he hram (j := 1) rfl rfl),
      fun hfalse => absurd hfalse (by decide), pulledSp_of_pushed h he⟩
  | false =>
    rw [hse] at h hram
    exact ⟨pulledByte_of_pushed h he hram (j := 3) rfl rfl,
      hv (pulledByte_of_pushed h he hram (j := 1) rfl rfl) (pulledByte_of_pushed h he hram (j := 2) rfl rfl),
      fun _ => pulledByte_of_pushed h he hram (j := 0) rfl rfl, pulledSp_of_pushed h he⟩

/-- Settles O58: RTI pulls the frame that the entry pushed, and P, which the entry changed, comes back with it. -/
theorem interruptThenReturn : Obligations.InterruptThenReturn := by
  intro i s t u hop hinv hram hentry hreturn
  have hparts := exec_keepsParts hentry
  rw [stepFootprint, (footprint_softInterrupt hop).1] at hparts
  have he : t.e = s.e := hparts .e (by decide)
  obtain ⟨t', ht, hpushed, -, -, -, htpbr, -⟩ := softwareInterruptsTakeTheirException i s hop
  obtain ⟨u', hu, hsetsP, hpc, hpbr, hsp, -⟩ := rtiRestoresTheContext t
  obtain rfl := exec_unique ht hentry
  obtain rfl := exec_unique hu hreturn
  obtain ⟨hframeP, hframePc, hframeBank, hframeSp⟩ := State.pulledByte_of_frame hpushed he hram
  rw [hframeP] at hsetsP
  obtain ⟨hp, hx, hy⟩ := hsetsP.restores hinv he (hparts .x (by decide)) (hparts .y (by decide))
  have hkept : KeepsParts [.x, .y, .pc, .p, .sp, .pbr, .cyc, .mem] s u :=
    (hparts.trans (exec_keepsParts hreturn)).mono (by decide)
  refine ⟨hpc.trans hframePc, hp, hsp.trans hframeSp, ?_, ((hkept.of_cons hx).of_cons hy).restore_eq⟩
  rw [hpbr, he]
  cases hse : s.e with
  | true => exact htpbr
  | false => exact hframeBank hse

end Sys2Proof.Machine
end

section
/-! The special instructions (spec/49_control_special.md R313, R314, R317): WAI, STP and WDM. -/

namespace Sys2Proof.Machine

/-- WAI and STP are one byte long. -/
theorem nextPc_wait {i : Instr} (hop : i.op = .wai ∨ i.op = .stp) (s : State) : s.nextPc i = s.pc + 1 :=
  s.nextPc_of_mode (mode_of_op (ops := [.wai, .stp]) (m := .impl) (by decide) (by simpa using hop))

theorem handlerOf_wait {op : Op} (hop : op = .wai ∨ op = .stp) : handlerOf op = awaitSignal := by
  rcases hop with rfl | rfl <;> rfl

/-- Settles O59: both handlers poll INTSIG with PC past the opcode. -/
theorem waitsPollTheSignal : Obligations.WaitsPollTheSignal := by
  intro i s hop
  have h := exec_eq_next i s
  have hf : footprint i.op = [.pc] := by rcases hop with e | e <;> rw [e] <;> rfl
  have hpast : (s.advance i.op i.operand).pc = s.pc + 1 := (s.advance_nextPc i).trans (nextPc_wait hop s)
  have hframe := ((exec_keepsParts h).mono (qs := [.pc, .cyc]) (by rw [stepFootprint, hf]; decide)).restore_eq
  refine ⟨_, h, ?_, cyc_of_exec h (by rw [hf]; decide), keepsMemory_of_exec h (by rw [stepFootprint, hf]; decide), hframe⟩
  rw [handlerOf_wait hop, awaitSignal, hpast, BitVec.add_sub_cancel, State.advance_intsig]

theorem wdm_immb_halted (b : Byte) (ea : Addr) (s : State) :
    (wdm (.immb b) ea s).halted = (s.halted || s.cfg.wdmStop.contains b) := by
  rw [wdm_halted, State.operandValue, lo_zext]

/-- Settles O60: the stop codes are the only ones that set HALTED, and HALTED is all WDM writes. -/
theorem wdmHaltsOnAStopCode : Obligations.WdmHaltsOnAStopCode := by
  intro b s
  have h := exec_eq_next (.wdm b) s
  obtain ⟨hadv, hmem, hframe⟩ := exec_frame h (ps := [.halted]) rfl (by decide)
  have hhalted := wdm_immb_halted b (s.eaOf (.wdm b)) (s.advance .wdm (.immb b))
  rw [State.advance_halted, State.advance_cfg] at hhalted
  refine ⟨_, h, hadv, fun hstop => ?_, fun hgo => ?_, hmem, hframe⟩
  · refine hhalted.trans ?_
    rw [List.contains_iff_mem.mpr hstop, Bool.or_true]
  · refine hhalted.trans ?_
    simp [hgo]

end Sys2Proof.Machine
end
